-- ==== Sys2Proof/Word.lean ====
section
/-! DEFINITION. The words of the bridge (00_scope.md R8): bytes, flash addresses, byte counts. Every quantity is
unsigned. -/

namespace Sys2Proof

/-- A byte: bits 7 (most significant) down to 0 (R8). -/
abbrev Byte := BitVec 8

/-- A flash address: a 24-bit byte offset (20_memory.md R70). -/
abbrev Addr := BitVec 24

/-- `LEN`, the 32-bit byte count of a host command (30_encoding.md R100). -/
abbrev Len := BitVec 32

end Sys2Proof
end

