-- ==== Sys2Proof/Machine/Tap.lean ====
section
/-! DEFINITION. The TAP states, their codes and the TMS transition table (10_state.md R35, R36), and the device
family with its code (R34). -/

namespace Sys2Proof

/-- The 16 states of the TAP automaton, in the order of their codes (10_state.md R35). -/
inductive TapState where
  | testLogicReset | runTestIdle | selectDrScan | captureDr
  | shiftDr | exit1Dr | pauseDr | exit2Dr
  | updateDr | selectIrScan | captureIr | shiftIr
  | exit1Ir | pauseIr | exit2Ir | updateIr
  deriving DecidableEq, Repr, Inhabited

/-- The 4-bit code of a TAP state (10_state.md R35). -/
def TapState.code : TapState → BitVec 4
  | .testLogicReset => 0 | .runTestIdle => 1 | .selectDrScan => 2 | .captureDr => 3
  | .shiftDr => 4 | .exit1Dr => 5 | .pauseDr => 6 | .exit2Dr => 7
  | .updateDr => 8 | .selectIrScan => 9 | .captureIr => 10 | .shiftIr => 11
  | .exit1Ir => 12 | .pauseIr => 13 | .exit2Ir => 14 | .updateIr => 15

/-- The state the driver reaches from a state on one TCK with the given TMS (10_state.md R36). The bridge never
drives TMS; no rule of the bridge reads this table. -/
def TapState.onTms : TapState → Bool → TapState
  | .testLogicReset, false => .runTestIdle  | .testLogicReset, true => .testLogicReset
  | .runTestIdle, false => .runTestIdle     | .runTestIdle, true => .selectDrScan
  | .selectDrScan, false => .captureDr      | .selectDrScan, true => .selectIrScan
  | .captureDr, false => .shiftDr           | .captureDr, true => .exit1Dr
  | .shiftDr, false => .shiftDr             | .shiftDr, true => .exit1Dr
  | .exit1Dr, false => .pauseDr             | .exit1Dr, true => .updateDr
  | .pauseDr, false => .pauseDr             | .pauseDr, true => .exit2Dr
  | .exit2Dr, false => .shiftDr             | .exit2Dr, true => .updateDr
  | .updateDr, false => .runTestIdle        | .updateDr, true => .selectDrScan
  | .selectIrScan, false => .captureIr      | .selectIrScan, true => .testLogicReset
  | .captureIr, false => .shiftIr           | .captureIr, true => .exit1Ir
  | .shiftIr, false => .shiftIr             | .shiftIr, true => .exit1Ir
  | .exit1Ir, false => .pauseIr             | .exit1Ir, true => .updateIr
  | .pauseIr, false => .pauseIr             | .pauseIr, true => .exit2Ir
  | .exit2Ir, false => .shiftIr             | .exit2Ir, true => .updateIr
  | .updateIr, false => .runTestIdle        | .updateIr, true => .selectDrScan

/-- The states a driver visits on a sequence of TMS values, the last one reached at the end (10_state.md R36): the
driver's path between two states is its own choice among these. -/
def TapState.path (t : TapState) : List Bool → List TapState
  | [] => []
  | b :: bs => t.onTms b :: (t.onTms b).path bs

/-- The device family (10_state.md R33). -/
inductive Family where
  | unknown | familyA | familyB
  deriving DecidableEq, Repr, Inhabited

/-- The 2-bit code of a family; the value 3 is never produced (10_state.md R34). -/
def Family.code : Family → BitVec 2
  | .unknown => 0 | .familyA => 1 | .familyB => 2

end Sys2Proof
end

