-- ==== Sys2Proof/Config.lean ====
section
/-! DEFINITION. The implementation parameters of the bridge (00_scope.md R6) with their constraints (R7, 30_encoding.md
R103, R104), the answers of the driver (10_state.md R49), and the free values: constants with no body. The reference
instance `CfgRef` stands in Machine/Reference.lean. -/

namespace Sys2Proof

/-- The sixteen names of the flash opcode table (30_encoding.md R103). -/
inductive FlashName where
  | wren | wrdi | rdsr1 | rdsr2 | rdsr3 | wrsr1 | wrsr2 | wrsr3
  | ce | se4k | be32k | be64k | pp | rdid | fastRead | read
  deriving DecidableEq, Repr

/-- The flash names in the table's order (R103). -/
def FlashName.all : List FlashName :=
  [.wren, .wrdi, .rdsr1, .rdsr2, .rdsr3, .wrsr1, .wrsr2, .wrsr3,
   .ce, .se4k, .be32k, .be64k, .pp, .rdid, .fastRead, .read]

/-- `FLASH_OP(n)` for every name n (R103). -/
structure FlashOps where
  wren : Byte
  wrdi : Byte
  rdsr1 : Byte
  rdsr2 : Byte
  rdsr3 : Byte
  wrsr1 : Byte
  wrsr2 : Byte
  wrsr3 : Byte
  ce : Byte
  se4k : Byte
  be32k : Byte
  be64k : Byte
  pp : Byte
  rdid : Byte
  fastRead : Byte
  read : Byte
  deriving DecidableEq, Repr

/-- The opcode of a name (R103). -/
def FlashOps.get (o : FlashOps) : FlashName → Byte
  | .wren => o.wren | .wrdi => o.wrdi | .rdsr1 => o.rdsr1 | .rdsr2 => o.rdsr2
  | .rdsr3 => o.rdsr3 | .wrsr1 => o.wrsr1 | .wrsr2 => o.wrsr2 | .wrsr3 => o.wrsr3
  | .ce => o.ce | .se4k => o.se4k | .be32k => o.be32k | .be64k => o.be64k
  | .pp => o.pp | .rdid => o.rdid | .fastRead => o.fastRead | .read => o.read

/-- The per-family configuration instruction names (30_encoding.md R104). -/
inductive IrName where
  | status | enable | erase | disable | resetCrc | burst | refresh | passthrough
  deriving DecidableEq, Repr

/-- The family instruction names in the table's order (R104). -/
def IrName.all : List IrName :=
  [.status, .enable, .erase, .disable, .resetCrc, .burst, .refresh, .passthrough]

/-- A table with one entry for each per-family instruction name (R104). -/
structure IrTable (α : Type) where
  status : α
  enable : α
  erase : α
  disable : α
  resetCrc : α
  burst : α
  refresh : α
  passthrough : α
  deriving DecidableEq, Repr

/-- The entry of a name. -/
def IrTable.get {α : Type} (t : IrTable α) : IrName → α
  | .status => t.status | .enable => t.enable | .erase => t.erase | .disable => t.disable
  | .resetCrc => t.resetCrc | .burst => t.burst | .refresh => t.refresh | .passthrough => t.passthrough

/-- How a field of a status register is read (42_identity_status.md R176): a flag, or a value looked up among its
meanings. -/
inductive FieldKind where
  | flag
  | meanings (table : List (Nat × String))
  deriving DecidableEq, Repr, Inhabited

/-- One entry of `STATUS_DECODE(F)` (R176). -/
structure FieldEntry where
  offset : Nat
  width : Nat
  label : String
  kind : FieldKind
  deriving DecidableEq, Repr, Inhabited

/-- The parameters that depend on the family (00_scope.md R6). -/
structure FamilyCfg where
  statusBits : Nat                              -- STATUS_BITS(F)
  irLen : Nat                                   -- IR_LEN(F)
  ir : IrTable Byte                             -- IR(F, n)
  param : IrTable (Option Byte)                 -- CFG_PARAM(F, n)
  unlock : List Byte                            -- UNLOCK(F)
  idTable : List (BitVec 32 × String)           -- ID_TABLE(F)
  statusDecode : List FieldEntry                -- STATUS_DECODE(F)
  deriving DecidableEq, Repr

/-- `WORD_ASSEMBLY` (20_memory.md R76). -/
inductive WordAssembly where
  | msbByteFirst | lsbByteFirst
  deriving DecidableEq, Repr

/-- `SHIFT_EXIT_STATE` (90_conflicts.md C5). -/
inductive ShiftExit where
  | pause | runTestIdle
  deriving DecidableEq, Repr

/-- `UNKNOWN_FAMILY_POLICY` (44_config_sequencer.md R259). -/
inductive UnknownPolicy where
  | refuse | treatAsA
  deriving DecidableEq, Repr

/-- The erase granularities (30_encoding.md R107). -/
inductive Gran where
  | g4K | g32K | g64K
  deriving DecidableEq, Repr

/-- The configuration record (00_scope.md R6). -/
structure Cfg where
  idcodeBits : Nat
  addrBits : Nat
  addrBytes : Nat
  pageSize : Nat
  readChunk : Nat
  sramChunk : Nat
  erase4K : Nat
  erase32K : Nat
  erase64K : Nat
  readyDebounce : Nat
  unlockLen : Nat
  settleCycles : Nat
  pollDelay : Nat
  wordAssembly : WordAssembly
  shiftExit : ShiftExit
  busyBit : Nat
  flashOps : FlashOps
  irIdcode : Byte
  famA : FamilyCfg
  famB : FamilyCfg
  flashResetFrame : List Byte
  jedecIdLen : Nat
  maxXferBytes : Nat
  unknownPolicy : UnknownPolicy
  deriving DecidableEq, Repr

/-- The family record of a family; Unknown has none of its own and takes FamilyA's, which is what the policy
`TreatAsA` asks for (44_config_sequencer.md R259) and is never read under `Refuse`. -/
def Cfg.fam (c : Cfg) : Family → FamilyCfg
  | .familyB => c.famB
  | _ => c.famA

/-- `ERASE_SIZE(G)` (00_scope.md R6). -/
def Cfg.eraseSize (c : Cfg) : Gran → Nat
  | .g4K => c.erase4K | .g32K => c.erase32K | .g64K => c.erase64K

/-- A power of two, at least 1 (R7). -/
abbrev IsPow2 (n : Nat) : Prop := 1 ≤ n ∧ 2 ^ n.log2 = n

/-- The nine instruction values of a family: `IR_IDCODE` and the eight of `IR(F, n)` (R104). -/
def Cfg.irCodes (c : Cfg) (f : Family) : List Byte :=
  c.irIdcode :: IrName.all.map (c.fam f).ir.get

/-- The constraints of 00_scope.md R7, one by one. The byte ranges of R7 hold by the type Byte. -/
abbrev Cfg.WfSizes (c : Cfg) : Prop :=
  IsPow2 c.pageSize ∧ IsPow2 c.readChunk ∧ IsPow2 c.sramChunk
    ∧ IsPow2 c.erase4K ∧ IsPow2 c.erase32K ∧ IsPow2 c.erase64K
    ∧ c.pageSize ∣ c.erase4K ∧ c.pageSize ∣ c.erase32K ∧ c.pageSize ∣ c.erase64K
    ∧ c.addrBytes * 8 = c.addrBits
    ∧ 8 ∣ c.famA.statusBits ∧ 8 ∣ c.famB.statusBits ∧ 8 ∣ c.idcodeBits
    ∧ 1 ≤ c.readyDebounce ∧ c.busyBit ≤ 7
    ∧ c.sramChunk ≤ c.maxXferBytes
    ∧ c.famA.irLen = c.famB.irLen

/-- The sixteen flash opcodes are distinct (R103), and so are the nine values of each family (R104). -/
abbrev Cfg.WfCodes (c : Cfg) : Prop :=
  (FlashName.all.map c.flashOps.get).Nodup ∧ (c.irCodes .familyA).Nodup ∧ (c.irCodes .familyB).Nodup

/-- DEDUCED (log 13): what the rules fix by writing a number or a frame out. R70, R73 and R100 write 24 bits and three
bytes; R33, R106 and R170 write 32 bits; the frame T_IR is one byte (R106) while R45 asserts that a shift's bits and
bytes agree, so `IR_LEN` is 8; `UNLOCK(F)` has `UNLOCK_LEN` bytes (R258); a frame has at least one byte (R150). -/
abbrev Cfg.WfPinned (c : Cfg) : Prop :=
  c.addrBits = 24 ∧ c.idcodeBits = 32 ∧ c.famA.irLen = 8
    ∧ c.famA.unlock.length = c.unlockLen ∧ c.famB.unlock.length = c.unlockLen
    ∧ c.flashResetFrame ≠ []

/-- A well-formed instance of the parameters (00_scope.md R7). -/
abbrev Cfg.Wf (c : Cfg) : Prop := c.WfSizes ∧ c.WfCodes ∧ c.WfPinned

/-- One answer of the oracle (10_state.md R49): Ok or Fail; for a `Shift`, the received bytes; for an `Open`, the TAP
state the session starts in. A primitive reads the fields that concern it. -/
structure Answer where
  ok : Bool
  rx : List Byte
  tap : TapState
  deriving DecidableEq, Repr, Inhabited

namespace Config

/-- FREE VALUE (log 4). The oracle's answers beyond the scripted ones, by their number (10_state.md R49: "The model
places no constraint on the answers"). -/
opaque driver : Nat → Answer

/-- FREE VALUE (log 4). Byte j of what an answer returns beyond the bytes it lists (10_state.md R49). -/
opaque driverByte : Nat → Nat → Byte

/-- FREE VALUE (log 5). The TAP state at power-up and after a failed open (10_state.md R56: "unconstrained: any of the
16 states (a draw)"). -/
opaque tapDraw : Nat → TapState

/-- FREE VALUE (log 3). `SETTLE_CYCLES` of the reference instance, which is OPEN (00_scope.md R6). -/
opaque settleCycles : Nat

/-- FREE VALUE (log 3). `POLL_DELAY` of the reference instance, which is OPEN (R6). -/
opaque pollDelay : Nat

/-- FREE VALUE (log 3). How far `MAX_XFER_BYTES` exceeds 16384, which it is at least (R6). -/
opaque maxXferSlack : Nat

/-- FREE VALUE (log 3). `ID_TABLE(B)`, "OPEN with no reference value" (30_encoding.md R112). -/
opaque idTableB : List (BitVec 32 × String)

/-- FREE VALUE (log 3). `STATUS_DECODE(B)`, which "is OPEN" (42_identity_status.md R179). -/
opaque statusDecodeB : List FieldEntry

end Config

end Sys2Proof
end

