-- ==== Sys2Proof/Machine/Reference.lean ====
section
/-! DEFINITION. `CfgRef`, the reference instance of the parameters (00_scope.md R6). Its opcode, instruction, table and frame
values are the spec's own general knowledge (PRESUMED, log 2; 93_implementation_defined.md G1 to G7, G15 to G17). -/

namespace Sys2Proof

/-- The flash opcodes of `CfgRef` (30_encoding.md R103). -/
def refFlashOps : FlashOps where
  wren := 0x06
  wrdi := 0x04
  rdsr1 := 0x05
  rdsr2 := 0x35
  rdsr3 := 0x15
  wrsr1 := 0x01
  wrsr2 := 0x31
  wrsr3 := 0x11
  ce := 0xC7
  se4k := 0x20
  be32k := 0x52
  be64k := 0xD8
  pp := 0x02
  rdid := 0x9F
  fastRead := 0x0B
  read := 0x03

/-- `IR(F, n)` of `CfgRef`, the same for both families (R104). -/
def refIr : IrTable Byte where
  status := 0x3C
  enable := 0xC6
  erase := 0x0E
  disable := 0x26
  resetCrc := 0x3B
  burst := 0x7A
  refresh := 0x79
  passthrough := 0x3A

/-- `CFG_PARAM(F, n)` of `CfgRef`: 0x00 for ENABLE and ERASE, absent for the others (R104). -/
def refParam : IrTable (Option Byte) where
  status := none
  enable := some 0x00
  erase := some 0x00
  disable := none
  resetCrc := none
  burst := none
  refresh := none
  passthrough := none

/-- `ID_TABLE(A)` of `CfgRef` (30_encoding.md R112). -/
def refIdTableA : List (BitVec 32 × String) :=
  [(0x21111043, "LFE5U-12"), (0x41111043, "LFE5U-25"), (0x41112043, "LFE5U-45"), (0x41113043, "LFE5U-85"),
   (0x01111043, "LFE5UM-25"), (0x01112043, "LFE5UM-45"), (0x01113043, "LFE5UM-85"),
   (0x81111043, "LFE5UM5G-25"), (0x81112043, "LFE5UM5G-45"), (0x81113043, "LFE5UM5G-85")]

/-- The meanings of the `BSE_ERROR` field (42_identity_status.md R178). -/
def refBseMeanings : List (Nat × String) :=
  [(0, "No error"), (1, "ID error"), (2, "CMD error, illegal command"), (3, "CRC error"),
   (4, "PRMB error, preamble error"), (5, "ABRT error, configuration aborted by the user"),
   (6, "OVFL error, data overflow"), (7, "SDM error, bitstream passes the size of the SRAM array")]

/-- The meanings of the `CONFIG_TARGET` field (R177). -/
def refTargetMeanings : List (Nat × String) :=
  [(0, "SRAM"), (1, "eFuse"), (2, "eFuse"), (3, "eFuse"), (4, "eFuse"), (5, "eFuse"), (6, "eFuse"), (7, "eFuse")]

/-- A one-bit flag of a status register. -/
def flagAt (offset : Nat) (label : String) : FieldEntry := ⟨offset, 1, label, .flag⟩

/-- `STATUS_DECODE(A)` of `CfgRef` (R177); bit 8, `DONE`, is the one entry the source fixes. -/
def refStatusDecodeA : List FieldEntry :=
  [flagAt 0 "TRANSPARENT_MODE", ⟨1, 3, "CONFIG_TARGET", .meanings refTargetMeanings⟩, flagAt 4 "JTAG_ACTIVE",
   flagAt 5 "PWD_PROTECTION", flagAt 7 "DECRYPT_ENABLE", flagAt 8 "DONE", flagAt 9 "ISC_ENABLE",
   flagAt 10 "WRITE_ENABLE", flagAt 11 "READ_ENABLE", flagAt 12 "BUSY", flagAt 13 "FAIL",
   flagAt 14 "FEATURE_OTP", flagAt 15 "DECRYPT_ONLY", flagAt 16 "PWD_ENABLE", flagAt 20 "ENCRYPT_PREAMBLE",
   flagAt 21 "STD_PREAMBLE", flagAt 22 "SPIM_FAIL1", ⟨23, 3, "BSE_ERROR", .meanings refBseMeanings⟩,
   flagAt 26 "EXECUTION_ERROR", flagAt 27 "ID_ERROR", flagAt 28 "INVALID_COMMAND", flagAt 29 "SED_ERROR",
   flagAt 30 "BYPASS_MODE", flagAt 31 "FLOW_THROUGH_MODE"]

/-- FamilyA under `CfgRef` (00_scope.md R6). -/
def refFamA : FamilyCfg where
  statusBits := 32
  irLen := 8
  ir := refIr
  param := refParam
  unlock := [0xFE, 0x68]
  idTable := refIdTableA
  statusDecode := refStatusDecodeA

/-- FamilyB under `CfgRef`; its two tables are OPEN with no reference value (R112, R179; log 3). -/
def refFamB : FamilyCfg where
  statusBits := 64
  irLen := 8
  ir := refIr
  param := refParam
  unlock := [0xFE, 0x68]
  idTable := Config.idTableB
  statusDecode := Config.statusDecodeB

/-- `CfgRef` (00_scope.md R6; 30_encoding.md R103, R104, R112, R113), with the defaults of the spec's parameters. -/
def Cfg.ref : Cfg where
  idcodeBits := 32
  addrBits := 24
  addrBytes := 3
  pageSize := 256
  readChunk := 4096
  sramChunk := 16384
  erase4K := 4096
  erase32K := 32768
  erase64K := 65536
  readyDebounce := 2
  unlockLen := 2
  settleCycles := Config.settleCycles
  pollDelay := Config.pollDelay
  wordAssembly := .msbByteFirst
  shiftExit := .pause
  busyBit := 0
  flashOps := refFlashOps
  irIdcode := 0xE0
  famA := refFamA
  famB := refFamB
  flashResetFrame := List.replicate 8 0xFF
  jedecIdLen := 3
  maxXferBytes := Config.maxXferSlack + 16384
  unknownPolicy := .refuse

end Sys2Proof
end

