-- ==== Sys2Proof/Machine/BitOrder.lean ====
section
/-! DEFINITION. Bit and byte order: the bit-order reversal engine (40_bit_order.md R140, R142), the address bytes
(20_memory.md R73), the assembly of words (R76), the bits of a shift on the wire (10_state.md R50), and what a flash
reads of them (R51). -/

namespace Sys2Proof

/-- `rev8(b)`: bit i of the answer is bit 7 − i of b (40_bit_order.md R140). -/
def rev8 (b : Byte) : Byte :=
  BitVec.ofBool (b.getLsbD 0) ++ BitVec.ofBool (b.getLsbD 1) ++ BitVec.ofBool (b.getLsbD 2)
    ++ BitVec.ofBool (b.getLsbD 3) ++ BitVec.ofBool (b.getLsbD 4) ++ BitVec.ofBool (b.getLsbD 5)
    ++ BitVec.ofBool (b.getLsbD 6) ++ BitVec.ofBool (b.getLsbD 7)

/-- `revBuf(s)`: every byte reversed, the order of the bytes kept (R142). -/
def revBuf (s : List Byte) : List Byte := s.map rev8

/-- `be24(a)`: the three address bytes, most significant first (20_memory.md R73). -/
def be24 (a : Addr) : List Byte := [a.extractLsb' 16 8, a.extractLsb' 8 8, a.extractLsb' 0 8]

/-- The address three bytes stand for, the reading of R73 backwards. -/
def ofBe24 (hi mid lo : Byte) : Addr := hi ++ mid ++ lo

/-- `assemble(rx, W)` (42_identity_status.md R171, 20_memory.md R76): the received bytes as one number, the first byte
most significant or least significant as `WORD_ASSEMBLY` says. It is below 2^W for W/8 bytes. -/
def assemble (o : WordAssembly) (rx : List Byte) : Nat :=
  match o with
  | .msbByteFirst => rx.foldl (fun v b => v * 256 + b.toNat) 0
  | .lsbByteFirst => rx.foldr (fun b v => v * 256 + b.toNat) 0

/-- The n bytes of a word, least significant first. -/
def bytesLe (v : Nat) : Nat → List Byte
  | 0 => []
  | n + 1 => BitVec.ofNat 8 v :: bytesLe (v / 256) n

/-- The n bytes a register shifts out so that `assemble` gives its value: "laid out by `WORD_ASSEMBLY`" (20_memory.md
R84). -/
def wordBytes (o : WordAssembly) (v n : Nat) : List Byte :=
  match o with
  | .msbByteFirst => (bytesLe v n).reverse
  | .lsbByteFirst => bytesLe v n

/-- The bits of one byte in wire order, least significant first (10_state.md R50). -/
def byteBits (b : Byte) : List Bool := (List.range 8).map b.getLsbD

/-- The bit stream of a shift: bit k is `tx[k div 8][k mod 8]` (10_state.md R50). -/
def wireBits (tx : List Byte) : List Bool := tx.flatMap byteBits

/-- The byte a flash reads from eight stream bits, the first one most significant (10_state.md R51). -/
def flashByte (bits : List Bool) : Byte :=
  bits.foldl (fun v b => (v <<< 1) ||| (if b then 1 else 0)) 0

end Sys2Proof
end

