-- ==== Sys2Proof/Machine/Operands.lean ====
section
/-! DEFINITION. The operand forms of the commands: options and granularity (30_encoding.md R107, R108), the range and
length checks (20_memory.md R79, R81; 41_spi_bridge.md R152; 45_orchestrator.md R281), and how the macros cut a range
into erase blocks, pages and chunks (45_orchestrator.md R285 to R292). -/

namespace Sys2Proof

/-! ## Options and granularity -/

/-- OPTS bit 0: end with `C_REFRESH` (R108). -/
def optRefresh (o : Byte) : Bool := o.getLsbD 0
/-- OPTS bit 1: disable protection first (R108). -/
def optUnprotect (o : Byte) : Bool := o.getLsbD 1
/-- OPTS bit 2: erase with `F_CE` (R108). -/
def optBulk (o : Byte) : Bool := o.getLsbD 2
/-- OPTS bit 3: skip erase (R108). -/
def optNoErase (o : Byte) : Bool := o.getLsbD 3
/-- OPTS bit 4: skip verify (R108). -/
def optNoVerify (o : Byte) : Bool := o.getLsbD 4

/-- The options `M_PROGRAM` allows: all five of R108 (45_orchestrator.md R281). -/
def programOpts : Byte := 0x1F
/-- The options every other macro with OPTS allows: `REFRESH` (R281). -/
def refreshOnly : Byte := 0x01

/-- "The OPTS bits must be a subset of the macro's allowed set" and not `BULK` with `NOERASE` (R281 step 3). -/
def optsOk (allowed o : Byte) : Bool := o &&& ~~~allowed == 0 && !(optBulk o && optNoErase o)

/-- The granularity a GRAN field selects; 3 is reserved (R107). -/
def granOf (g : BitVec 2) : Option Gran :=
  if g = 0 then some .g4K else if g = 1 then some .g32K else if g = 2 then some .g64K else none

/-- The GRAN field of a granularity (R107). -/
def Gran.code : Gran → BitVec 2
  | .g4K => 0 | .g32K => 1 | .g64K => 2

/-! ## Range and length checks -/

/-- The size of the flash address space, 2^24 (20_memory.md R70). -/
def flashSpace : Nat := 2 ^ 24

/-- A DATA or LEN of one SPI command: at least 1 byte, at most `MAX_XFER_BYTES` (41_spi_bridge.md R152, 43 R217). -/
def xferLenOk (c : Cfg) (n : Nat) : Bool := decide (1 ≤ n) && decide (n ≤ c.maxXferBytes)

/-- A page program stays inside one page: `1 <= |d| <= PAGE_SIZE − (a mod PAGE_SIZE)` (20_memory.md R79, the operand check
of `F_PP` by 43_flash_commands.md R200; log 19). -/
def pageLenOk (c : Cfg) (a : Addr) (n : Nat) : Bool :=
  decide (1 ≤ n) && decide (n ≤ c.pageSize - a.toNat % c.pageSize)

/-- "If `offset + length > 2^24`, it is refused with `BAD_ADDRESS`" (R281 step 4, 20_memory.md R81). -/
def rangeOk (offset : Addr) (n : Nat) : Bool := decide (offset.toNat + n ≤ flashSpace)

/-- "The host port accepts up to 2^24 bytes for the flash macros" (R281 step 5). -/
def macroLenOk (n : Nat) : Bool := decide (n ≤ flashSpace)

/-! ## Rounding and the erase region -/

/-- `roundDown(x, b)` (00_scope.md R8). -/
def roundDown (x b : Nat) : Nat := x - x % b

/-- `roundUp(x, b)` (R8). -/
def roundUp (x b : Nat) : Nat := roundDown (x + b - 1) b

/-- `begin` of the erase region (45_orchestrator.md R287). -/
def eraseBegin (offset b : Nat) : Nat := roundDown offset b

/-- `end` of the erase region (R287). -/
def eraseEnd (offset length b : Nat) : Nat := roundUp (offset + length) b

/-- The block addresses `begin, begin + b, ..., end - b` (R288). -/
def eraseBlocks (offset length b : Nat) : List Nat :=
  (List.range ((eraseEnd offset length b - eraseBegin offset b) / b)).map (eraseBegin offset b + b * ·)

/-! ## Pieces and chunks -/

/-- A byte sequence in chunks of n bytes, the last one shortened; the first argument bounds the number of chunks
(45_orchestrator.md R285). -/
def chunks (n : Nat) : Nat → List Byte → List (List Byte)
  | 0, _ => []
  | _ + 1, [] => []
  | k + 1, b :: bs => (b :: bs).take n :: chunks n k ((b :: bs).drop n)

/-- The chunks of an SRAM image (R285). -/
def sramChunks (c : Cfg) (data : List Byte) : List (List Byte) := chunks c.sramChunk data.length data

/-- A byte sequence from address a in pieces that do not cross a page boundary, each with its address; the first
argument bounds the number of pieces (R290). -/
def pieces (page : Nat) : Nat → Nat → List Byte → List (Nat × List Byte)
  | 0, _, _ => []
  | _ + 1, _, [] => []
  | k + 1, a, b :: bs =>
    let n := min (b :: bs).length (page - a % page)
    (a, (b :: bs).take n) :: pieces page k (a + n) ((b :: bs).drop n)

/-- The pieces of the program loop (R290). -/
def pagePieces (c : Cfg) (offset : Addr) (data : List Byte) : List (Nat × List Byte) :=
  pieces c.pageSize data.length offset.toNat data

/-- A byte sequence from address a in chunks of n bytes, each with its address (R291). -/
def addressed (n : Nat) : Nat → Nat → List Byte → List (Nat × List Byte)
  | 0, _, _ => []
  | _ + 1, _, [] => []
  | k + 1, a, b :: bs => (a, (b :: bs).take n) :: addressed n k (a + min n (b :: bs).length) ((b :: bs).drop n)

/-- The chunks of the verify loop, which start at the offset (R291). -/
def verifyChunks (c : Cfg) (offset : Addr) (data : List Byte) : List (Nat × List Byte) :=
  addressed c.readChunk data.length offset.toNat data

/-- The sizes a length splits into, n at a time, the last one shortened (R292). -/
def sizes (n : Nat) : Nat → Nat → List Nat
  | 0, _ => []
  | k + 1, len => if len = 0 then [] else min n len :: sizes n k (len - n)

/-- The `F_CONT_READ` lengths of `M_READ` (R292). -/
def readSizes (c : Cfg) (len : Nat) : List Nat := sizes c.readChunk len len

/-- The address of the first byte that differs, for a chunk read from address a (R291). -/
def firstDiff (a : Nat) : List Byte → List Byte → Option Addr
  | r :: rs, e :: es => if r = e then firstDiff (a + 1) rs es else some (BitVec.ofNat 24 a)
  | _, _ => none

end Sys2Proof
end

