-- ==== Sys2Proof/Syntax.lean ====
section
/-! DEFINITION. The instructions: one constructor for each row of spec/opcode_table.json. The 41 host commands of
30_encoding.md R101 with the operands their Format names (R102), the 16 frames of the SPI flash opcodes (R103, R105),
and the 9 TAP instructions (R104, R106). -/

namespace Sys2Proof

/-- The instructions of the bridge. Operands stand in the order of 30_encoding.md R115. OPTS and GRAN are kept raw: their
reserved values reach the macro, which refuses them (R107, R108). -/
inductive Instr where
  -- session (70_reset_and_hazards.md)
  | sessionOpen (sel : List Byte)
  | sessionClose
  -- SPI-over-JTAG bridge (41_spi_bridge.md)
  | spiXfer (data : List Byte)
  | spiStream (data : List Byte)
  | spiEnd
  -- identity and status (42_identity_status.md)
  | readIdcode
  | readStatus
  -- flash commands (43_flash_commands.md)
  | fWren
  | fWrdi
  | fRdsr1
  | fRdsr2
  | fRdsr3
  | fWrsr1 (value : Byte)
  | fWrsr2 (value : Byte)
  | fWrsr3 (value : Byte)
  | fCe
  | fSe4k (addr : Addr)
  | fBe32k (addr : Addr)
  | fBe64k (addr : Addr)
  | fPp (addr : Addr) (data : List Byte)
  | fRdid
  | fRead (addr : Addr)
  | fContRead (len : Len)
  | fWait
  | fUnprotect
  | fReset
  -- configuration sequencer (44_config_sequencer.md)
  | cEnable
  | cErase
  | cDisable
  | cResetCrc
  | cBurst
  | cBurstData (data : List Byte)
  | cRefresh
  | cPassthrough
  -- orchestrator (45_orchestrator.md)
  | mIdentify
  | mProbe (opts : Byte)
  | mLoadSram (data : List Byte) (opts : Byte)
  | mProgram (offset : Addr) (gran : BitVec 2) (data : List Byte) (opts : Byte)
  | mRead (offset : Addr) (len : Len) (opts : Byte)
  | mErase (offset : Addr) (len : Len) (gran : BitVec 2) (opts : Byte)
  | mVerify (offset : Addr) (data : List Byte) (opts : Byte)
  -- frames of the SPI flash opcodes (30_encoding.md R103, R105)
  | opWren
  | opWrdi
  | opRdsr1
  | opRdsr2
  | opRdsr3
  | opWrsr1 (value : Byte)
  | opWrsr2 (value : Byte)
  | opWrsr3 (value : Byte)
  | opCe
  | opSe4k (addr : Addr)
  | opBe32k (addr : Addr)
  | opBe64k (addr : Addr)
  | opPp (addr : Addr) (data : List Byte)
  | opRdid
  | opFastRead
  | opRead (addr : Addr) (count : Nat)
  -- TAP instructions (30_encoding.md R104, R106)
  | irIdcode
  | irStatus
  | irEnable
  | irErase
  | irDisable
  | irResetCrc
  | irBurst
  | irRefresh
  | irPassthrough
  deriving DecidableEq, Repr

end Sys2Proof
end

