-- ==== Sys2Proof/WellFormed.lean ====
section
/-! DEFINITION. Which operands an instruction may carry: those no operand check of its rule refuses (60_exceptions.md R339,
steps 3 to 5). The machine runs ill-formed instructions too: it answers them with the refusal the spec names. -/

namespace Sys2Proof

/-- The operand checks of every instruction: lengths (41_spi_bridge.md R152, 20_memory.md R79, 43 R217, 70 R371), and
the macros' options, granularity, range and length (45_orchestrator.md R281). -/
abbrev Instr.WellFormed (c : Cfg) : Instr → Prop
  | .sessionOpen sel => sel.length ≤ c.maxXferBytes
  | .spiXfer data => xferLenOk c data.length
  | .spiStream data => xferLenOk c data.length
  | .fPp addr data => pageLenOk c addr data.length
  | .fContRead len => xferLenOk c len.toNat
  | .cBurstData data => xferLenOk c data.length
  | .mProbe opts => optsOk refreshOnly opts
  | .mLoadSram _ opts => optsOk refreshOnly opts
  | .mProgram offset gran data opts =>
    optsOk programOpts opts ∧ (granOf gran).isSome ∧ rangeOk offset data.length ∧ macroLenOk data.length
  | .mRead offset len opts =>
    optsOk refreshOnly opts ∧ rangeOk offset len.toNat ∧ macroLenOk len.toNat
  | .mErase offset len gran opts =>
    optsOk refreshOnly opts ∧ (granOf gran).isSome ∧ rangeOk offset len.toNat ∧ macroLenOk len.toNat
  | .mVerify offset data opts =>
    optsOk refreshOnly opts ∧ rangeOk offset data.length ∧ macroLenOk data.length
  | .opPp addr data => pageLenOk c addr data.length
  | .opRead _ count => count ≤ c.maxXferBytes
  | .sessionClose | .spiEnd | .readIdcode | .readStatus
  | .fWren | .fWrdi | .fRdsr1 | .fRdsr2 | .fRdsr3 | .fWrsr1 _ | .fWrsr2 _ | .fWrsr3 _
  | .fCe | .fSe4k _ | .fBe32k _ | .fBe64k _ | .fRdid | .fRead _ | .fWait | .fUnprotect | .fReset
  | .cEnable | .cErase | .cDisable | .cResetCrc | .cBurst | .cRefresh | .cPassthrough | .mIdentify
  | .opWren | .opWrdi | .opRdsr1 | .opRdsr2 | .opRdsr3 | .opWrsr1 _ | .opWrsr2 _ | .opWrsr3 _
  | .opCe | .opSe4k _ | .opBe32k _ | .opBe64k _ | .opRdid | .opFastRead
  | .irIdcode | .irStatus | .irEnable | .irErase | .irDisable | .irResetCrc | .irBurst | .irRefresh
  | .irPassthrough => True

end Sys2Proof
end

