-- ==== Sys2Proof/Decode.lean ====
section
/-! DEFINITION. The three encodings of the bridge (30_encoding.md): the host command descriptor (R100 to R102, R109,
R110), the SPI frame (R103, R105) and the TAP frame (R104, R106). Decoding is total and rejects by name; the encoder is
written from the same tables. -/

namespace Sys2Proof

/-- A host command as the host port delivers it (R100, R110): the 64-bit header, LEN where the command has one, and the
byte sequence DATA with its length. -/
structure Descriptor where
  header : BitVec 64
  len : Option Len
  data : List Byte
  deriving DecidableEq, Repr

/-- What step fetches. `host` is the bridge's command port. `spi` and `tap` present one frame of the table's SPI and TAP
rows by itself, a convention of this model (log 10). -/
inductive Fetch where
  | host (d : Descriptor)
  | spi (frame : List Byte)
  | tap (code : Byte)
  deriving DecidableEq, Repr

/-- Why an input decodes to no instruction. The first three are R109's; the next two are this model's reading of R110
(log 9); the last three are frames outside the tables (R111, R114). -/
inductive DecodeError where
  | undefinedCode
  | reservedBits
  | unreadField
  | unexpectedLen
  | unexpectedData
  | unlistedOpcode
  | badFrame
  | unlistedIrCode
  deriving DecidableEq, Repr

/-! ## The header fields (R100) -/

/-- `H[7:0]`, CODE. -/
def hCode (h : BitVec 64) : Byte := h.extractLsb' 0 8
/-- `H[15:8]`, VALUE or OPTS. -/
def hValue (h : BitVec 64) : Byte := h.extractLsb' 8 8
/-- `H[17:16]`, GRAN. -/
def hGran (h : BitVec 64) : BitVec 2 := h.extractLsb' 16 2
/-- `H[23:18]`, reserved. -/
def hReservedLow (h : BitVec 64) : BitVec 6 := h.extractLsb' 18 6
/-- `H[47:24]`, ADDR: `zext_24(H[47:24])`, "never sign-extended, scaled or shifted" (R102). -/
def hAddr (h : BitVec 64) : Addr := h.extractLsb' 24 24
/-- `H[63:48]`, reserved. -/
def hReservedHigh (h : BitVec 64) : BitVec 16 := h.extractLsb' 48 16

/-- A header with each operand in its field and all other bits 0 (R115). -/
def mkHeader (code value : Byte) (gran : BitVec 2) (addr : Addr) : BitVec 64 :=
  0#16 ++ addr ++ 0#6 ++ gran ++ value ++ code

/-! ## The host command table (R101) -/

/-- The Format column: which operand fields a command reads (R101). `value` stands for V and O, which share
`H[15:8]`. -/
structure Format where
  value : Bool := false
  gran : Bool := false
  addr : Bool := false
  len : Bool := false
  data : Bool := false
  deriving DecidableEq, Repr

/-- One row of the table of R101, with the instruction its operands form (R102). -/
structure HostRow where
  code : Byte
  format : Format
  build : Descriptor → Instr

/-- Format H0. -/
def fmtH0 : Format := {}
/-- Format D. -/
def fmtD : Format := { data := true }
/-- Format V, and format O, which reads the same field. -/
def fmtV : Format := { value := true }
/-- Format A. -/
def fmtA : Format := { addr := true }
/-- Format N. -/
def fmtN : Format := { len := true }

/-- LEN of a descriptor whose format has one. -/
def Descriptor.lenOr0 (d : Descriptor) : Len := d.len.getD 0

/-- The rows of sessions, the SPI bridge, identity and status (R101, 0x01 to 0x21). -/
def hostRowsLow : List HostRow :=
  [⟨0x01, fmtD, fun d => .sessionOpen d.data⟩,
   ⟨0x02, fmtH0, fun _ => .sessionClose⟩,
   ⟨0x10, fmtD, fun d => .spiXfer d.data⟩,
   ⟨0x11, fmtD, fun d => .spiStream d.data⟩,
   ⟨0x12, fmtH0, fun _ => .spiEnd⟩,
   ⟨0x20, fmtH0, fun _ => .readIdcode⟩,
   ⟨0x21, fmtH0, fun _ => .readStatus⟩]

/-- The rows of the flash commands (R101, 0x30 to 0x42). -/
def hostRowsFlash : List HostRow :=
  [⟨0x30, fmtH0, fun _ => .fWren⟩,
   ⟨0x31, fmtH0, fun _ => .fWrdi⟩,
   ⟨0x32, fmtH0, fun _ => .fRdsr1⟩,
   ⟨0x33, fmtH0, fun _ => .fRdsr2⟩,
   ⟨0x34, fmtH0, fun _ => .fRdsr3⟩,
   ⟨0x35, fmtV, fun d => .fWrsr1 (hValue d.header)⟩,
   ⟨0x36, fmtV, fun d => .fWrsr2 (hValue d.header)⟩,
   ⟨0x37, fmtV, fun d => .fWrsr3 (hValue d.header)⟩,
   ⟨0x38, fmtH0, fun _ => .fCe⟩,
   ⟨0x39, fmtA, fun d => .fSe4k (hAddr d.header)⟩,
   ⟨0x3A, fmtA, fun d => .fBe32k (hAddr d.header)⟩,
   ⟨0x3B, fmtA, fun d => .fBe64k (hAddr d.header)⟩,
   ⟨0x3C, { addr := true, data := true }, fun d => .fPp (hAddr d.header) d.data⟩,
   ⟨0x3D, fmtH0, fun _ => .fRdid⟩,
   ⟨0x3E, fmtA, fun d => .fRead (hAddr d.header)⟩,
   ⟨0x3F, fmtN, fun d => .fContRead d.lenOr0⟩,
   ⟨0x40, fmtH0, fun _ => .fWait⟩,
   ⟨0x41, fmtH0, fun _ => .fUnprotect⟩,
   ⟨0x42, fmtH0, fun _ => .fReset⟩]

/-- The rows of the configuration sequencer (R101, 0x50 to 0x57). -/
def hostRowsConfig : List HostRow :=
  [⟨0x50, fmtH0, fun _ => .cEnable⟩,
   ⟨0x51, fmtH0, fun _ => .cErase⟩,
   ⟨0x52, fmtH0, fun _ => .cDisable⟩,
   ⟨0x53, fmtH0, fun _ => .cResetCrc⟩,
   ⟨0x54, fmtH0, fun _ => .cBurst⟩,
   ⟨0x55, fmtD, fun d => .cBurstData d.data⟩,
   ⟨0x56, fmtH0, fun _ => .cRefresh⟩,
   ⟨0x57, fmtH0, fun _ => .cPassthrough⟩]

/-- The rows of the orchestrator (R101, 0x60 to 0x66). -/
def hostRowsOrchestrator : List HostRow :=
  [⟨0x60, fmtH0, fun _ => .mIdentify⟩,
   ⟨0x61, fmtV, fun d => .mProbe (hValue d.header)⟩,
   ⟨0x62, { value := true, data := true }, fun d => .mLoadSram d.data (hValue d.header)⟩,
   ⟨0x63, { value := true, gran := true, addr := true, data := true },
      fun d => .mProgram (hAddr d.header) (hGran d.header) d.data (hValue d.header)⟩,
   ⟨0x64, { value := true, addr := true, len := true },
      fun d => .mRead (hAddr d.header) d.lenOr0 (hValue d.header)⟩,
   ⟨0x65, { value := true, gran := true, addr := true, len := true },
      fun d => .mErase (hAddr d.header) d.lenOr0 (hGran d.header) (hValue d.header)⟩,
   ⟨0x66, { value := true, addr := true, data := true },
      fun d => .mVerify (hAddr d.header) d.data (hValue d.header)⟩]

/-- The whole table of R101. -/
def hostRows : List HostRow := hostRowsLow ++ hostRowsFlash ++ hostRowsConfig ++ hostRowsOrchestrator

/-- The row of a CODE, if it is listed (R101, R109). -/
def hostRow (code : Byte) : Option HostRow := hostRows.find? fun r => r.code == code

/-- The descriptor carries what the format reads and nothing else: a field the format does not read is 0 (R109); LEN
and DATA are there exactly where the format has them (R110, log 9). -/
def formatError (f : Format) (d : Descriptor) : Option DecodeError :=
  if (!f.value && hValue d.header != 0) || (!f.gran && hGran d.header != 0) || (!f.addr && hAddr d.header != 0) then
    some .unreadField
  else if d.len.isSome != f.len then some .unexpectedLen
  else if !f.data && !d.data.isEmpty then some .unexpectedData
  else none

/-- Decoding a host command (R101, R102, R109). -/
def decodeHost (d : Descriptor) : Except DecodeError Instr :=
  match hostRow (hCode d.header) with
  | none => .error .undefinedCode
  | some r =>
    if hReservedLow d.header != 0 || hReservedHigh d.header != 0 then .error .reservedBits
    else match formatError r.format d with
      | some e => .error e
      | none => .ok (r.build d)

/-! ## SPI frames (R103, R105) -/

/-- The name of an SPI opcode under a configuration (R103). -/
def flashNameOf (c : Cfg) (op : Byte) : Option FlashName := FlashName.all.find? fun n => c.flashOps.get n == op

/-- The frame of a name with the bytes that follow its opcode, in its format of R105. -/
def decodeSpiFrame (c : Cfg) (n : FlashName) (rest : List Byte) : Except DecodeError Instr :=
  match n, rest with
  | .wren, [] => .ok .opWren
  | .wrdi, [] => .ok .opWrdi
  | .rdsr1, [0] => .ok .opRdsr1
  | .rdsr2, [0] => .ok .opRdsr2
  | .rdsr3, [0] => .ok .opRdsr3
  | .wrsr1, [v] => .ok (.opWrsr1 v)
  | .wrsr2, [v] => .ok (.opWrsr2 v)
  | .wrsr3, [v] => .ok (.opWrsr3 v)
  | .ce, [] => .ok .opCe
  | .se4k, [x, y, z] => .ok (.opSe4k (ofBe24 x y z))
  | .be32k, [x, y, z] => .ok (.opBe32k (ofBe24 x y z))
  | .be64k, [x, y, z] => .ok (.opBe64k (ofBe24 x y z))
  | .pp, x :: y :: z :: data => .ok (.opPp (ofBe24 x y z) data)
  | .rdid, r => if r = List.replicate c.jedecIdLen 0 then .ok .opRdid else .error .badFrame
  | .fastRead, [] => .ok .opFastRead
  | .read, x :: y :: z :: fill =>
    if fill = List.replicate fill.length 0 then .ok (.opRead (ofBe24 x y z) fill.length) else .error .badFrame
  | _, _ => .error .badFrame

/-- Decoding an SPI frame (R103, R105). -/
def decodeSpi (c : Cfg) : List Byte → Except DecodeError Instr
  | [] => .error .badFrame
  | op :: rest =>
    match flashNameOf c op with
    | none => .error .unlistedOpcode
    | some n => decodeSpiFrame c n rest

/-! ## TAP frames (R104, R106) -/

/-- The instruction of a family instruction name. -/
def irInstr : IrName → Instr
  | .status => .irStatus | .enable => .irEnable | .erase => .irErase | .disable => .irDisable
  | .resetCrc => .irResetCrc | .burst => .irBurst | .refresh => .irRefresh | .passthrough => .irPassthrough

/-- Decoding a T_IR frame under the instruction values of a family (R104). -/
def decodeTap (c : Cfg) (f : Family) (code : Byte) : Except DecodeError Instr :=
  if code = c.irIdcode then .ok .irIdcode
  else match IrName.all.find? fun n => (c.fam f).ir.get n == code with
    | some n => .ok (irInstr n)
    | none => .error .unlistedIrCode

/-- Decoding, total over every input, under a configuration and a family of TAP instruction values. -/
def decode (c : Cfg) (f : Family) : Fetch → Except DecodeError Instr
  | .host d => decodeHost d
  | .spi frame => decodeSpi c frame
  | .tap code => decodeTap c f code

/-! ## The encoder -/

/-- A host command with a header alone (R110). -/
def hostPlain (code value : Byte) (gran : BitVec 2) (addr : Addr) : Fetch :=
  .host ⟨mkHeader code value gran addr, none, []⟩

/-- A host command with LEN (R110). -/
def hostLen (code value : Byte) (gran : BitVec 2) (addr : Addr) (len : Len) : Fetch :=
  .host ⟨mkHeader code value gran addr, some len, []⟩

/-- A host command with DATA (R110). -/
def hostData (code value : Byte) (gran : BitVec 2) (addr : Addr) (data : List Byte) : Fetch :=
  .host ⟨mkHeader code value gran addr, none, data⟩

/-- The input of an instruction (R100 to R106), under a configuration and a family of TAP instruction values. -/
def encode (c : Cfg) (f : Family) : Instr → Fetch
  | .sessionOpen sel => hostData 0x01 0 0 0 sel
  | .sessionClose => hostPlain 0x02 0 0 0
  | .spiXfer data => hostData 0x10 0 0 0 data
  | .spiStream data => hostData 0x11 0 0 0 data
  | .spiEnd => hostPlain 0x12 0 0 0
  | .readIdcode => hostPlain 0x20 0 0 0
  | .readStatus => hostPlain 0x21 0 0 0
  | .fWren => hostPlain 0x30 0 0 0
  | .fWrdi => hostPlain 0x31 0 0 0
  | .fRdsr1 => hostPlain 0x32 0 0 0
  | .fRdsr2 => hostPlain 0x33 0 0 0
  | .fRdsr3 => hostPlain 0x34 0 0 0
  | .fWrsr1 v => hostPlain 0x35 v 0 0
  | .fWrsr2 v => hostPlain 0x36 v 0 0
  | .fWrsr3 v => hostPlain 0x37 v 0 0
  | .fCe => hostPlain 0x38 0 0 0
  | .fSe4k a => hostPlain 0x39 0 0 a
  | .fBe32k a => hostPlain 0x3A 0 0 a
  | .fBe64k a => hostPlain 0x3B 0 0 a
  | .fPp a data => hostData 0x3C 0 0 a data
  | .fRdid => hostPlain 0x3D 0 0 0
  | .fRead a => hostPlain 0x3E 0 0 a
  | .fContRead len => hostLen 0x3F 0 0 0 len
  | .fWait => hostPlain 0x40 0 0 0
  | .fUnprotect => hostPlain 0x41 0 0 0
  | .fReset => hostPlain 0x42 0 0 0
  | .cEnable => hostPlain 0x50 0 0 0
  | .cErase => hostPlain 0x51 0 0 0
  | .cDisable => hostPlain 0x52 0 0 0
  | .cResetCrc => hostPlain 0x53 0 0 0
  | .cBurst => hostPlain 0x54 0 0 0
  | .cBurstData data => hostData 0x55 0 0 0 data
  | .cRefresh => hostPlain 0x56 0 0 0
  | .cPassthrough => hostPlain 0x57 0 0 0
  | .mIdentify => hostPlain 0x60 0 0 0
  | .mProbe opts => hostPlain 0x61 opts 0 0
  | .mLoadSram data opts => hostData 0x62 opts 0 0 data
  | .mProgram offset gran data opts => hostData 0x63 opts gran offset data
  | .mRead offset len opts => hostLen 0x64 opts 0 offset len
  | .mErase offset len gran opts => hostLen 0x65 opts gran offset len
  | .mVerify offset data opts => hostData 0x66 opts 0 offset data
  | .opWren => .spi [c.flashOps.wren]
  | .opWrdi => .spi [c.flashOps.wrdi]
  | .opRdsr1 => .spi [c.flashOps.rdsr1, 0]
  | .opRdsr2 => .spi [c.flashOps.rdsr2, 0]
  | .opRdsr3 => .spi [c.flashOps.rdsr3, 0]
  | .opWrsr1 v => .spi [c.flashOps.wrsr1, v]
  | .opWrsr2 v => .spi [c.flashOps.wrsr2, v]
  | .opWrsr3 v => .spi [c.flashOps.wrsr3, v]
  | .opCe => .spi [c.flashOps.ce]
  | .opSe4k a => .spi (c.flashOps.se4k :: be24 a)
  | .opBe32k a => .spi (c.flashOps.be32k :: be24 a)
  | .opBe64k a => .spi (c.flashOps.be64k :: be24 a)
  | .opPp a data => .spi (c.flashOps.pp :: be24 a ++ data)
  | .opRdid => .spi (c.flashOps.rdid :: List.replicate c.jedecIdLen 0)
  | .opFastRead => .spi [c.flashOps.fastRead]
  | .opRead a count => .spi (c.flashOps.read :: be24 a ++ List.replicate count 0)
  | .irIdcode => .tap c.irIdcode
  | .irStatus => .tap (c.fam f).ir.status
  | .irEnable => .tap (c.fam f).ir.enable
  | .irErase => .tap (c.fam f).ir.erase
  | .irDisable => .tap (c.fam f).ir.disable
  | .irResetCrc => .tap (c.fam f).ir.resetCrc
  | .irBurst => .tap (c.fam f).ir.burst
  | .irRefresh => .tap (c.fam f).ir.refresh
  | .irPassthrough => .tap (c.fam f).ir.passthrough

/-! ## The table's words -/

/-- The zero operand bytes that follow an opcode in its frame of R105: the table gives the row its opcode byte alone,
and every operand byte is 0. -/
def zeroOperands (c : Cfg) : FlashName → List Byte
  | .wren | .wrdi | .ce | .fastRead => []
  | .rdsr1 | .rdsr2 | .rdsr3 | .wrsr1 | .wrsr2 | .wrsr3 => [0]
  | .se4k | .be32k | .be64k | .read => [0, 0, 0]
  | .pp => [0, 0, 0, 0]
  | .rdid => List.replicate c.jedecIdLen 0

/-- The host command of a 64-bit word: LEN is 0 where the command has one, DATA is empty. -/
def hostFetch (w : Nat) : Fetch :=
  let h := BitVec.ofNat 64 w
  match hostRow (hCode h) with
  | some r => .host ⟨h, if r.format.len then some 0 else none, []⟩
  | none => .host ⟨h, none, []⟩

/-- The frame of an 8-bit word: an SPI opcode with zero operand bytes, or else a TAP instruction. -/
def frameFetch (c : Cfg) (w : Nat) : Fetch :=
  let b := BitVec.ofNat 8 w
  match flashNameOf c b with
  | some n => .spi (b :: zeroOperands c n)
  | none => .tap b

/-- The input a word of the opcode table stands for, with zero operands: 64-bit words are host headers, 8-bit words are
SPI opcodes and TAP instructions. -/
def fetchOfWord (c : Cfg) (nbits w : Nat) : Fetch := if nbits = 8 then frameFetch c w else hostFetch w

/-- The instruction the decoder reads from a word of the opcode table, under `CfgRef`, whose values the table lists. -/
def decodeTableWord (nbits w : Nat) : Option Instr :=
  (decode Cfg.ref .familyA (fetchOfWord Cfg.ref nbits w)).toOption

end Sys2Proof
end

