-- ==== Sys2Proof/Machine/State.lean ====
section
/-! DEFINITION. The state of the bridge (10_state.md R30: its record, whole), its parameters (00_scope.md R6), the working
registers of a running command (R54), the ports and observables (00_scope.md R4, R11), and the optional reference target
(20_memory.md R84); the faults and refusals of a step; the state at reset (R56). All of it is plain data. -/

namespace Sys2Proof.Machine

/-! ## Values of the record of R30 -/

/-- Whether a hardware session exists (10_state.md R32). -/
inductive Session where
  | closed | opened
  deriving DecidableEq, Repr

/-- The identified device (10_state.md R33). -/
structure DeviceInfo where
  family : Family
  idcode : BitVec 32
  displayName : String
  deriving DecidableEq, Repr

/-- The orchestrator's phases (10_state.md R37). -/
inductive OrchState where
  | idle | identify | probe | loadSram | programFlash | readFlash | eraseFlash | verifyFlash | refresh | done
  deriving DecidableEq, Repr

/-- The result kinds (60_exceptions.md R337). -/
inductive ResultKind where
  | ok | commFailure | verifyMismatch | refused
  deriving DecidableEq, Repr

/-- The code of a result kind (R337). -/
def ResultKind.code : ResultKind → Nat
  | .ok => 0 | .commFailure => 1 | .verifyMismatch => 2 | .refused => 3

/-- The reasons (60_exceptions.md R337). -/
inductive Reason where
  | none | sticky | transport | noSession | badCommand | badLength | badAddress | badOptions
  | unknownFamily | notIdentified | noOpenRead | noOpenBurst | sessionOpenFailed
  deriving DecidableEq, Repr

/-- The code of a reason; 13 to 255 are never produced (R337). -/
def Reason.code : Reason → Nat
  | .none => 0 | .sticky => 1 | .transport => 2 | .noSession => 3 | .badCommand => 4 | .badLength => 5
  | .badAddress => 6 | .badOptions => 7 | .unknownFamily => 8 | .notIdentified => 9 | .noOpenRead => 10
  | .noOpenBurst => 11 | .sessionOpenFailed => 12

/-- The value of one decoded status field (42_identity_status.md R176). -/
inductive FieldValue where
  | flag (b : Bool)
  | name (meaning : String)
  deriving DecidableEq, Repr

/-- What `READ_STATUS` returns: the width, the raw word, and the decoded fields (42_identity_status.md R174, R181). -/
structure StatusReport where
  width : Nat
  raw : Nat
  fields : List (String × FieldValue)
  deriving DecidableEq, Repr

/-- What `F_UNPROTECT` returns (43_flash_commands.md R220). -/
structure Unprotect where
  discrepancy : Bool
  sr1 : Byte
  deriving DecidableEq, Repr

/-- What a macro gathers while it runs: `r1`, `st`, `j`, `sr`, `disc`, `first` and `out` of 45_orchestrator.md R282 to
R292. -/
structure Notes where
  fresh : Option DeviceInfo := none
  status : Option StatusReport := none
  jedec : List Byte := []
  sr1 : Option Byte := none
  unprotect : Option Unprotect := none
  first : Option Addr := none
  out : List Byte := []
  deriving DecidableEq, Repr

/-- The command-specific data of a result (10_state.md R53). -/
inductive ResultData where
  | none
  | byte (v : Byte)                                                 -- F_RDSR1..3
  | bytes (bs : List Byte)                                          -- SPI_XFER, SPI_STREAM, F_RDID, F_CONT_READ, M_READ
  | device (d : DeviceInfo)                                         -- READ_IDCODE
  | status (r : StatusReport)                                       -- READ_STATUS
  | polls (n : Nat)                                                 -- F_WAIT
  | unprotect (u : Unprotect)                                       -- F_UNPROTECT
  | identity (dev : Option DeviceInfo) (status : Option StatusReport)            -- M_IDENTIFY
  | probe (dev : Option DeviceInfo) (status : Option StatusReport) (jedec : List Byte) (sr1 : Option Byte)  -- M_PROBE
  | program (dev : Option DeviceInfo) (jedec : List Byte) (unprotect : Option Unprotect)
      (firstMismatch : Option Addr)                                 -- M_PROGRAM
  | mismatch (first : Addr)                                         -- M_VERIFY
  deriving DecidableEq, Repr

/-- The result of a command (10_state.md R53). -/
structure Result where
  kind : ResultKind
  reason : Reason
  data : ResultData
  deriving DecidableEq, Repr

/-- The hazard marks (10_state.md R40). -/
inductive HazardMark where
  | noPassthrough | busyNotPolled | frameMerged | noWriteEnable
  deriving DecidableEq, Repr

/-- A set of hazard marks: whether each of the four is in it (R40). -/
structure HazardSet where
  noPassthrough : Bool := false
  busyNotPolled : Bool := false
  frameMerged : Bool := false
  noWriteEnable : Bool := false
  deriving DecidableEq, Repr

/-! ## Events (00_scope.md R11) -/

/-- The register a shift goes through. -/
inductive Reg where
  | ir | dr
  deriving DecidableEq, Repr

/-- The events of 00_scope.md R11. -/
inductive Event where
  | goTo (t : TapState)
  | shift (reg : Reg) (tx : List Byte) (n : Nat) (exit : Bool) (rx : List Byte)
  | settle (cycles : Nat)
  | delay (t : Nat)
  | opened (sel : List Byte)
  | closed
  deriving DecidableEq, Repr

/-! ## The command in progress (10_state.md R54) -/

/-- What a macro does with the data of a sub-command it has run (45_orchestrator.md R282 to R292). -/
inductive Keep where
  | nothing
  | fresh
  | status
  | jedec
  | sr1
  | unprotect
  | append
  | compare (at_ : Nat) (expected : List Byte)
  deriving DecidableEq, Repr

/-- One item of a macro's expansion: a phase of the orchestrator, a sub-command, or the `READ_STATUS` of
`identifyPhase`, which is run under a condition (45_orchestrator.md R280, R282). -/
inductive PlanItem where
  | enter (o : OrchState)
  | sub (i : Instr) (keep : Keep)
  | statusIfKnown
  deriving DecidableEq, Repr

/-- Which macro runs, for its result (45_orchestrator.md R283 to R294). -/
inductive MacroKind where
  | identify | probe | loadSram | program | read | erase | verify
  deriving DecidableEq, Repr

/-- A macro stopped inside a sub-command that waits: what it will keep of that sub-command, the rest of its expansion
(its loop cursors, R54), and what it has gathered. -/
structure Expansion where
  kind : MacroKind
  keep : Keep
  rest : List PlanItem
  notes : Notes
  deriving DecidableEq, Repr

/-- The two commands that wait (43_flash_commands.md R218, R220). -/
inductive WaitCmd where
  | wait | unprotect
  deriving DecidableEq, Repr

/-- A busy wait between two polls: the polls made, the command it belongs to, and the macro that runs it, if any. -/
structure Task where
  polls : Nat
  cmd : WaitCmd
  outer : Option Expansion
  deriving DecidableEq, Repr

/-! ## The reference target (20_memory.md R84) -/

/-- A memory: cells of an address and a byte, addresses rising, none equal to what an unlisted address reads as. -/
abbrev Memory := List Host.Cell

/-- The mode of the reference target (R84). -/
inductive TargetMode where
  | config | passthrough
  deriving DecidableEq, Repr

/-- The reference target (R84): its state, and the parameters and draws a test gives it. `frame` holds the bytes of the
DR stay in progress, as they were shifted. `family`, whose instruction values, unlock sequence and status width it answers
to, is the model's own parameter (DESIGN CHOICE, log 29). -/
structure Target where
  mem : Memory
  sr1 : Byte
  sr2 : Byte
  sr3 : Byte
  busyPolls : Nat
  mode : TargetMode
  ir : Byte
  frame : List Byte
  family : Family
  idcode : BitVec 32
  status : Nat
  jedec : List Byte
  bw : Nat
  be : Nat
  bp : Nat
  deriving DecidableEq, Repr

/-! ## The state -/

/-- The state. The first thirteen fields are the record of 10_state.md R30, `pt` to `hz` its ghost fields. The others
are the model's own: the parameters (00_scope.md R6), the command in progress (R54), and the ports (R4, R11, R49, R84). -/
structure State where
  session : Session
  err : Bool
  dev : Option DeviceInfo
  tap : TapState
  orch : OrchState
  rdOpen : Bool
  burstOpen : Bool
  rdyCount : Nat
  result : Option Result
  pt : Bool
  weIssued : Bool
  mustPoll : Bool
  hz : HazardSet
  cfg : Cfg
  task : Option Task
  inbox : List Fetch
  trace : List Event
  results : List Result
  orchLog : List OrchState
  script : List Answer
  drawn : Nat
  target : Option Target
  deriving DecidableEq, Repr

/-! ## Faults and refusals -/

/-- Why a step stops with a fault: an assertion of a primitive, or of the expansion of a macro. R54 says these hold by
construction; they are reached only under ill-formed parameters (`Cfg.Wf`). Each is safe: the machine stops where the
spec gives nothing. -/
inductive Fault where
  /-- Raised by `tapShift` outside SHIFT_IR and SHIFT_DR (10_state.md R45). Safe. -/
  | shiftOutsideShiftState
  /-- Raised by `tapShift` when the bit count is not 8 times the byte count (R45). Safe. -/
  | shiftLengthMismatch
  /-- Raised by `tapSettle` outside RUN_TEST_IDLE (R46). Safe. -/
  | settleOutsideIdle
  /-- Raised by `transactSPI` and `streamSPI` on an empty frame (41_spi_bridge.md R150, R151). Safe. -/
  | emptyFrame
  /-- Raised by an expansion that holds something other than a command of 41 to 44 (45_orchestrator.md); no macro's
  expansion does. Safe. -/
  | notASubCommand
  deriving DecidableEq, Repr

/-- Why a step is refused by the model (not a REFUSED result of the bridge, which is a next state). -/
inductive Refusal where
  /-- Raised by exec's arm of an instruction that has no meaning yet. Safe. -/
  | notModelled (mnemonic : String)
  /-- Raised by the fast-read opcode: "No command sends `FLASH_OP(FAST_READ)`" (43_flash_commands.md R222). Safe. -/
  | fastReadNeverSent
  /-- Raised by step on an SPI or TAP frame outside the tables, which the bridge never sends (30_encoding.md R111,
  R114). Safe. -/
  | frameOutsideTables
  deriving DecidableEq, Repr

/-! ## Reset -/

/-- The state at power-up (10_state.md R56, 70_reset_and_hazards.md R370): the record of R30 as R56 gives it, `tap` a
draw (log 5); `CfgRef` (log 2); no command in progress, nothing at any port (logs 1, 4, 14, 18). -/
def State.reset : State where
  session := .closed
  err := false
  dev := none
  tap := Config.tapDraw 0
  orch := .idle
  rdOpen := false
  burstOpen := false
  rdyCount := 0
  result := none
  pt := false
  weIssued := false
  mustPoll := false
  hz := {}
  cfg := Cfg.ref
  task := none
  inbox := []
  trace := []
  results := []
  orchLog := []
  script := []
  drawn := 0
  target := none

end Sys2Proof.Machine
end

