-- ==== Sys2Proof/Machine/Memory.lean ====
section
/-! DEFINITION. The flash memory of the reference target (20_memory.md R70, R84): 2^24 bytes as a list of cells in one
canonical form. -/

namespace Sys2Proof.Machine

/-- What an unlisted address reads as: 0xFF, the value erase sets a byte to (20_memory.md R84; DESIGN CHOICE that memory
starts erased, log 16). -/
def erasedByte : Byte := 0xFF

/-- The canonical form: addresses strictly rising and inside the 2^24 bytes, no cell equal to `erasedByte`. -/
abbrev Memory.Wf (m : Memory) : Prop :=
  m.Pairwise (fun x y => x.1 < y.1) ∧ ∀ x ∈ m, x.1 < flashSpace ∧ x.2 ≠ erasedByte

/-- `MemRead(addr, 1)` (20_memory.md R84). -/
def Memory.read : Memory → Nat → Byte
  | [], _ => erasedByte
  | (k, v) :: rest, a => if k = a then v else Memory.read rest a

/-- `MemWrite(addr, 1, v)` (R84), keeping the canonical form. -/
def Memory.write : Memory → Nat → Byte → Memory
  | [], a, v => if v = erasedByte then [] else [(a, v)]
  | (k, w) :: rest, a, v =>
    if a < k then (if v = erasedByte then (k, w) :: rest else (a, v) :: (k, w) :: rest)
    else if a = k then (if v = erasedByte then rest else (a, v) :: rest)
    else (k, w) :: Memory.write rest a v

/-- Every byte of `[lo, hi)` becomes 0xFF (R84, erase). -/
def Memory.erase (m : Memory) (lo hi : Nat) : Memory := m.filter fun x => !(decide (lo ≤ x.1) && decide (x.1 < hi))

/-- The page program of R84: data byte i goes, ANDed with what is there, to `roundDown(a, 256) + ((a + i) mod 256)`. The
second argument is `a + i`. -/
def Memory.program (page : Nat) : Memory → Nat → List Byte → Memory
  | m, _, [] => m
  | m, x, d :: ds =>
    let at_ := page + x % 256
    Memory.program page (m.write at_ (m.read at_ &&& d)) (x + 1) ds

end Sys2Proof.Machine
end

