-- ==== Sys2Proof/Machine/Target.lean ====
section
/-! DEFINITION. The reference target (20_memory.md R84): how it answers a DR shift, and what it does when the TAP leaves
SHIFT_DR. It is attached to the driver by a test, and taken off by the first hazard mark; no rule of the bridge depends on it.
PRESUMED (log 14): its content is the spec's general knowledge. -/

namespace Sys2Proof.Machine

/-- SR1 as a status read returns it: bit 0 (WIP) is 1 while the flash is busy and 0 when it is not (R84). -/
def Target.sr1Read (t : Target) : Byte := if t.busyPolls = 0 then t.sr1 &&& 0xFE else t.sr1 ||| 0x01

/-- WEL, bit 1 of SR1 (R84). -/
def Target.wel (t : Target) : Bool := t.sr1.getLsbD 1

/-- WEL <- 0 (R84). -/
def Target.clearWel (t : Target) : Target := { t with sr1 := t.sr1 &&& 0xFD }

/-- The address of the three bytes after an opcode. -/
def frameAddr : List Byte → Option Nat
  | x :: y :: z :: _ => some (ofBe24 x y z).toNat
  | _ => none

/-- The flash's response byte j, j at least 1, in a transaction whose bytes are `op :: args` (R84): none where R84 does
not fix it. DESIGN CHOICE (log 34): to a frame of all 0xFF bytes, the reset frame, of which R84 says "no effect" and no
response, it is 0xFF, as to any first byte R84 does not list. -/
def Target.flashResponse (c : Cfg) (t : Target) (op : Byte) (args : List Byte) (j : Nat) : Option Byte :=
  if 0 < t.busyPolls then (if op = c.flashOps.rdsr1 then some t.sr1Read else none)
  else if op = c.flashOps.rdsr1 then some t.sr1Read
  else if op = c.flashOps.rdsr2 then some t.sr2
  else if op = c.flashOps.rdsr3 then some t.sr3
  else if op = c.flashOps.rdid then t.jedec[j - 1]?
  else if op = c.flashOps.read then
    (if j < 4 then none else (frameAddr args).map fun a => t.mem.read ((a + (j - 4)) % flashSpace))
  else if op ∈ [c.flashOps.wren, c.flashOps.wrdi, c.flashOps.wrsr1, c.flashOps.ce, c.flashOps.se4k,
      c.flashOps.be32k, c.flashOps.be64k, c.flashOps.pp] then none
  else some 0xFF

/-- What the target shifts out as byte j of a DR stay whose shifted bytes are `raw` (R84): the IDCODE or status word
outside passthrough, the flash's response in passthrough; none where R84 does not fix it. DESIGN CHOICE (log 30): byte 0 of
every transaction is none, that of an unlisted opcode too, of which R84 says only "responses 0xFF". DESIGN CHOICE (log 29):
the status instruction and the status width are those of the target's own family. -/
def Target.response (c : Cfg) (t : Target) (raw : List Byte) (j : Nat) : Option Byte :=
  match t.mode with
  | .config =>
    if t.ir = c.irIdcode then (wordBytes c.wordAssembly t.idcode.toNat (c.idcodeBits / 8))[j]?
    else if t.ir = (c.fam t.family).ir.status then
      (wordBytes c.wordAssembly t.status ((c.fam t.family).statusBits / 8))[j]?
    else none
  | .passthrough =>
    match revBuf raw with
    | [] => none
    | op :: args => if j = 0 then none else (t.flashResponse c op args j).map rev8

/-- The block erase of R84, for the block that contains the address (20_memory.md R80). Bytes after the address are ignored
(DESIGN CHOICE, log 32). -/
def Target.eraseBlock (t : Target) (size : Nat) (args : List Byte) : Target :=
  match frameAddr args with
  | some a =>
    if t.wel then
      { t.clearWel with mem := t.mem.erase (roundDown a size) (roundDown a size + size), busyPolls := t.be }
    else t
  | none => t

/-- What an SPI transaction `op :: args` does when chip select rises (R84). DESIGN CHOICE (log 32): one with more bytes than
its opcode's operands takes effect all the same, and the surplus is ignored. -/
def Target.flashEffect (c : Cfg) (t : Target) (op : Byte) (args : List Byte) : Target :=
  if 0 < t.busyPolls then (if op = c.flashOps.rdsr1 then { t with busyPolls := t.busyPolls - 1 } else t)
  else if op = c.flashOps.wren then { t with sr1 := t.sr1 ||| 0x02 }
  else if op = c.flashOps.wrdi then t.clearWel
  else if op = c.flashOps.wrsr1 then
    match args with
    | v :: _ => if t.wel then { t with sr1 := (v &&& 0xFC), busyPolls := t.bw } else t
    | [] => t
  else if op = c.flashOps.ce then (if t.wel then { t.clearWel with mem := [], busyPolls := t.be } else t)
  else if op = c.flashOps.se4k then t.eraseBlock c.erase4K args
  else if op = c.flashOps.be32k then t.eraseBlock c.erase32K args
  else if op = c.flashOps.be64k then t.eraseBlock c.erase64K args
  else if op = c.flashOps.pp then
    match frameAddr args with
    | some a =>
      if t.wel then
        { t.clearWel with mem := t.mem.program (roundDown a 256) a (args.drop 3), busyPolls := t.bp }
      else t
    | none => t
  else t

/-- The TAP leaves SHIFT_DR: in passthrough the transaction takes effect (R84); outside it, the unlock sequence under the
PASSTHROUGH instruction enters passthrough (R84, 44_config_sequencer.md R258; DEDUCED, log 15). DESIGN CHOICE (log 28): a DR
stay is a transaction by the target's own mode, where 10_state.md R51 has `s.pt`. DESIGN CHOICE (log 29): the instruction and
the sequence are those of the target's own family, which may differ from that of `s.dev`. -/
def Target.leaveDr (c : Cfg) (t : Target) : Target :=
  match t.mode with
  | .config =>
    if t.ir = (c.fam t.family).ir.passthrough ∧ t.frame = (c.fam t.family).unlock then
      { t with mode := .passthrough, frame := [] }
    else { t with frame := [] }
  | .passthrough =>
    match revBuf t.frame with
    | [] => { t with frame := [] }
    | op :: args => { t.flashEffect c op args with frame := [] }

/-- The target on a move of the TAP: leaving SHIFT_DR ends the DR stay, entering it starts one (10_state.md R51). -/
def Target.onGoTo (c : Cfg) (t : Target) (src dst : TapState) : Target :=
  let t' := if src = .shiftDr then t.leaveDr c else t
  if dst = .shiftDr then { t' with frame := [] } else t'

/-- The target on a shift (R84): an IR shift selects an instruction and leaves passthrough; a DR shift adds its bytes to
the DR stay, which ends when the shift exits. DESIGN CHOICE (log 31): REFRESH is one IR shift among others, after which the
target goes on answering as R84 says, where 93_implementation_defined.md U8 has "any value". -/
def Target.onShift (c : Cfg) (t : Target) (reg : Reg) (tx : List Byte) (exit : Bool) : Target :=
  match reg with
  | .ir => { t with ir := tx.headD t.ir, mode := .config }
  | .dr =>
    let t' := { t with frame := t.frame ++ tx }
    if exit then t'.leaveDr c else t'

/-- The bytes received in a shift: what R84 fixes, and the oracle's bytes elsewhere. -/
def Target.received (c : Cfg) (t : Target) (reg : Reg) (tx base : List Byte) : List Byte :=
  match reg with
  | .ir => base
  | .dr => base.zipIdx.map fun x => (t.response c (t.frame ++ tx) (t.frame.length + x.2)).getD x.1

end Sys2Proof.Machine
end

