-- ==== Sys2Proof/Machine/Ops.lean ====
section
/-! DEFINITION. The named operations every command is made of: how a command runs and ends (taking an exception is `raise`
and `commit`, 60_exceptions.md R330), the oracle (10_state.md R49), the TAP primitives (R44 to R48), and the common checks
(41_spi_bridge.md R154, 60_exceptions.md R339). -/

namespace Sys2Proof.Machine

/-! ## How a command runs -/

/-- What ends a command early: a `raise` (60_exceptions.md R330), or an assertion of a primitive that does not hold
(log 20). -/
inductive Stop where
  | raise (kind : ResultKind) (reason : Reason)
  | assert (f : Fault)
  deriving DecidableEq, Repr

/-- A command in progress: it reads and writes the state and may stop early. What it wrote stays written (R330, "no
rollback"). -/
abbrev Bridge := EStateM Stop State

/-- How a command leaves off: it ended with a result, or it waits between two polls (43_flash_commands.md R218). -/
inductive Flow where
  | ended (kind : ResultKind) (data : ResultData)
  | waiting (t : Task)
  deriving DecidableEq, Repr

/-- `result <- OK(data)`. -/
def done (data : ResultData) : Bridge Flow := pure (.ended .ok data)

/-- `raise K(reason)` (R330). -/
def raise {α : Type} (kind : ResultKind) (reason : Reason) : Bridge α := throw (.raise kind reason)

/-- `raise Refused(reason)`. -/
def refuse {α : Type} (reason : Reason) : Bridge α := raise .refused reason

/-- `s.result <- r` (10_state.md R53). -/
def State.setResult (s : State) (r : Result) : State := { s with result := some r }

/-- The result of a host command is returned: it is the last result, and one more of the run's results (00_scope.md
R11). -/
def State.answer (s : State) (r : Result) : State := { s with result := some r, results := s.results ++ [r] }

/-- A host command runs, and its end is the next state: its result, the result of what it raised (R330, R340: "A fault
saves nothing except the result record"), or the wait it is in. -/
def commit (b : Bridge Flow) (s : State) : Host.Outcome State Fault Refusal :=
  match b s with
  | .ok (.ended k d) s' => .next (s'.answer ⟨k, .none, d⟩)
  | .ok (.waiting t) s' => .next { s' with task := some t }
  | .error (.raise k r) s' => .next (s'.answer ⟨k, r, .none⟩)
  | .error (.assert f) _ => .fault f

/-! ## The oracle (10_state.md R49) -/

/-- `emit e` (00_scope.md R11). -/
def State.emit (s : State) (e : Event) : State := { s with trace := s.trace ++ [e] }

/-- The oracle's answer number k from here on: scripted, or free (log 4). -/
def State.answerAt (s : State) (k : Nat) : Answer := (s.script[k]?).getD (Config.driver (s.drawn + k))

/-- The oracle's next answer. -/
def State.nextAnswer (s : State) : Answer := s.answerAt 0

/-- One answer is taken. -/
def State.advance (s : State) : State := { s with script := s.script.tail, drawn := s.drawn + 1 }

/-- Whether the next answer is Ok. An attached reference target answers every primitive Ok (20_memory.md R84). -/
def State.driverOk (s : State) : Bool := s.target.isSome || s.nextAnswer.ok

/-- The next answer's received bytes, n of them; a byte the answer does not list is free (log 4). -/
def State.offeredBytes (s : State) (n : Nat) : List Byte :=
  (List.range n).map fun j => (s.nextAnswer.rx[j]?).getD (Config.driverByte s.drawn j)

/-- The bytes a shift receives: the target's, or the oracle's (R49, 20_memory.md R84). -/
def State.shiftRx (s : State) (reg : Reg) (tx : List Byte) : List Byte :=
  match s.target with
  | some t => t.received s.cfg reg tx (s.offeredBytes tx.length)
  | none => s.offeredBytes tx.length

/-- The reference target is known no more: from here on every answer is the oracle's, and no state of the target is
computed (60_exceptions.md R334; 93_implementation_defined.md U1, U19). The target is taken off, which is the form this model
gives "unconstrained" (log 14). -/
def State.loseTarget (s : State) : State := { s with target := none }

/-- The attached target sees a move of the TAP. -/
def State.targetGoTo (s : State) (dst : TapState) : State :=
  { s with target := s.target.map fun t => t.onGoTo s.cfg s.tap dst }

/-- The attached target sees a shift. -/
def State.targetShift (s : State) (reg : Reg) (tx : List Byte) (exit : Bool) : State :=
  { s with target := s.target.map fun t => t.onShift s.cfg reg tx exit }

/-! ## TAP primitives (10_state.md R44 to R48) -/

/-- A move that ends a streamed read and a burst: out of SHIFT_DR or CAPTURE_DR, other than CAPTURE_DR to SHIFT_DR
(R44). -/
def endsDrStay (src dst : TapState) : Bool :=
  (src == .shiftDr || src == .captureDr) && !(src == .captureDr && dst == .shiftDr)

/-- The TAP arrives at a state (R44, last two lines). -/
def State.arrive (s : State) (dst : TapState) : State :=
  { s with
    rdOpen := s.rdOpen && !endsDrStay s.tap dst
    burstOpen := s.burstOpen && !endsDrStay s.tap dst
    tap := dst }

/-- `exitState(reg)`: PAUSE_xR, or RUN_TEST_IDLE, as `SHIFT_EXIT_STATE` says (R45). -/
def exitState (c : Cfg) : Reg → TapState
  | .dr => if c.shiftExit = .pause then .pauseDr else .runTestIdle
  | .ir => if c.shiftExit = .pause then .pauseIr else .runTestIdle

/-- The TAP leaves SHIFT_xR with the last bit of a shift (R45). -/
def State.exitShift (s : State) (reg : Reg) : State :=
  match reg with
  | .dr => { s with rdOpen := false, burstOpen := false, tap := exitState s.cfg .dr }
  | .ir => { s with tap := exitState s.cfg .ir }

/-- `s.err <- true` (60_exceptions.md R333). -/
def State.fail (s : State) : State := { s with err := true }

/-- A primitive's call of the sticky short-circuit or of a transport fault (60_exceptions.md R332, R333). -/
def commFailure {α : Type} (reason : Reason) : Bridge α := raise .commFailure reason

/-- `TapGoTo(t)` (R44). -/
def tapGoTo (dst : TapState) : Bridge Unit := fun s =>
  if s.err then commFailure .sticky s
  else if s.tap = dst then .ok () s
  else
    let s1 := (s.emit (.goTo dst)).advance
    if s.driverOk then .ok () ((s1.targetGoTo dst).arrive dst)
    else commFailure .transport s1.fail

/-- The register a shift goes through: IR in SHIFT_IR, DR in SHIFT_DR (R45). -/
def shiftReg (t : TapState) : Option Reg :=
  if t = .shiftIr then some .ir else if t = .shiftDr then some .dr else none

/-- `rx <- TapShift(tx, n, exit)` (R45). The event carries the received bytes also when the answer is Fail. -/
def tapShift (tx : List Byte) (n : Nat) (exit : Bool) : Bridge (List Byte) := fun s =>
  if s.err then commFailure .sticky s
  else match shiftReg s.tap with
    | none => .error (.assert .shiftOutsideShiftState) s
    | some reg =>
      if ¬(n % 8 = 0 ∧ tx.length = n / 8) then .error (.assert .shiftLengthMismatch) s
      else
        let rx := s.shiftRx reg tx
        let s1 := (s.emit (.shift reg tx n exit rx)).advance
        if s.driverOk then
          let s2 := s1.targetShift reg tx exit
          .ok rx (if exit then s2.exitShift reg else s2)
        else commFailure .transport s1.fail

/-- `TapSettle(c)` (R46). -/
def tapSettle (cycles : Nat) : Bridge Unit := fun s =>
  if s.err then commFailure .sticky s
  else if s.tap ≠ .runTestIdle then .error (.assert .settleOutsideIdle) s
  else
    let s1 := (s.emit (.settle cycles)).advance
    if s.driverOk then .ok () s1 else commFailure .transport s1.fail

/-- `TapState()` (R47): no event, no answer, never fails. -/
def tapState : Bridge TapState := do return (← get).tap

/-- `Delay(t)` (R48): an event, and nothing else. -/
def delay (t : Nat) : Bridge Unit := modify fun s => s.emit (.delay t)

/-! ## Checks (41_spi_bridge.md R154, 60_exceptions.md R339) -/

/-- `REFUSED(NO_SESSION)` while the session is closed (10_state.md R32). -/
def checkSession : Bridge Unit := do
  if (← get).session = .closed then refuse .noSession

/-- A refusal unless a condition holds. -/
def require (b : Bool) (reason : Reason) : Bridge Unit := if b then pure () else refuse reason

/-- `COMM_FAILURE(STICKY)` while the sticky error is set (60_exceptions.md R332). -/
def checkSticky : Bridge Unit := do
  if (← get).err then commFailure .sticky

/-- The common checks of R154: session, then the length check of the command's rule, then the sticky error. The header
has been checked by then (60_exceptions.md R339; log 8). No command of R154 has a range check that can fail (C12). -/
def checks (lenOk : Bool) : Bridge Unit := do
  checkSession
  require lenOk .badLength
  checkSticky

end Sys2Proof.Machine
end

