-- ==== Sys2Proof/Machine/Flags.lean ====
section
/-! DEFINITION. The ghost flags and hazard marks: what each flash frame writes (43_flash_commands.md R223), what the prologue
of a flash command marks (R200), and the chip select (10_state.md R51). -/

namespace Sys2Proof.Machine

/-- Whether a mark is in a set. -/
def HazardSet.has (h : HazardSet) : HazardMark → Bool
  | .noPassthrough => h.noPassthrough
  | .busyNotPolled => h.busyNotPolled
  | .frameMerged => h.frameMerged
  | .noWriteEnable => h.noWriteEnable

/-- A mark is added to a set. -/
def HazardSet.add (h : HazardSet) : HazardMark → HazardSet
  | .noPassthrough => { h with noPassthrough := true }
  | .busyNotPolled => { h with busyNotPolled := true }
  | .frameMerged => { h with frameMerged := true }
  | .noWriteEnable => { h with noWriteEnable := true }

/-- `Hazard(h)` (10_state.md R40): the mark is added, and "from that point the oracle's answers, and every target state a
reference model would compute, are unconstrained" (60_exceptions.md R334). -/
def State.mark (s : State) (m : HazardMark) : State := { s.loseTarget with hz := s.hz.add m }

/-- `if b: Hazard(h)`. -/
def State.markIf (s : State) (b : Bool) (m : HazardMark) : State := if b then s.mark m else s

/-- The kinds of flash command the hazard rules tell apart (R200): the two that may poll a busy flash, the one that
continues an open read, and all others. -/
inductive FlashKind where
  | poll | contRead | plain
  deriving DecidableEq, Repr

/-- `flashHazards(cmd)` (R200, 41_spi_bridge.md R158). -/
def State.flashHazards (s : State) (k : FlashKind) : State :=
  ((s.markIf (!s.pt) .noPassthrough).markIf (s.mustPoll && k != .poll) .busyNotPolled).markIf
    (k != .contRead && s.pt && s.tap == .shiftDr) .frameMerged

/-- The mark of a status-register write frame about to be sent without a write-enable (R223). -/
def State.writeEnableHazard (s : State) : State := s.markIf (!s.weIssued) .noWriteEnable

/-- The ghost fields after a flash frame's shift completes (R223). -/
def State.afterFrame (s : State) : FlashName → State
  | .wren => { s with weIssued := true }
  | .wrdi => { s with weIssued := false }
  | .wrsr1 | .wrsr2 | .wrsr3 | .se4k | .be32k | .be64k | .ce | .pp => { s with weIssued := false, mustPoll := true }
  | .rdsr1 | .rdsr2 | .rdsr3 | .rdid | .fastRead | .read => s

/-- The SPI chip select of the target flash is asserted "exactly while `s.pt = true` and `s.tap = SHIFT_DR`"
(10_state.md R51). -/
def State.chipSelect (s : State) : Bool := s.pt && s.tap == .shiftDr

end Sys2Proof.Machine
end

