-- ==== Sys2Proof/Machine/Identity.lean ====
section
/-! DEFINITION. The identity and status sequencer (42_identity_status.md): `READ_IDCODE` (R170 to R173), the status decoder
(R176 to R180), `READ_STATUS` (R174), and the instruction load and family selection it shares with the configuration
sequencer (44_config_sequencer.md R259, R260). -/

namespace Sys2Proof.Machine

/-- Loading a TAP instruction: the frame T_IR (30_encoding.md R106), and the ghost write every IR shift makes
(44_config_sequencer.md R260). It follows the shift, as the pseudocode has it: where the move or the shift fails, `s.pt` is
left as it was (DEDUCED, log 33). -/
def irLoad (code : Byte) (len : Nat) : Bridge Unit := do
  tapGoTo .shiftIr
  let _ ← tapShift [code] len true
  modify fun s => { s with pt := false }

/-- `cfgFamily()` (44_config_sequencer.md R259, 42_identity_status.md R182). -/
def cfgFamily : Bridge Family := do
  let s ← get
  match s.dev with
  | none => refuse .notIdentified
  | some d =>
    if d.family = .unknown then
      match s.cfg.unknownPolicy with
      | .refuse => refuse .unknownFamily
      | .treatAsA => return .familyA
    else return d.family

/-- `lookupId(id)` (42_identity_status.md R172): table A, then table B, all 32 bits compared; no match is Unknown. -/
def lookupId (c : Cfg) (id : BitVec 32) : DeviceInfo :=
  match c.famA.idTable.find? fun e => e.1 == id with
  | some e => ⟨.familyA, id, e.2⟩
  | none =>
    match c.famB.idTable.find? fun e => e.1 == id with
    | some e => ⟨.familyB, id, e.2⟩
    | none => ⟨.unknown, id, ""⟩

/-- The name of a field value with no meaning (R180). -/
def reservedName : String := "reserved/undefined"

/-- One field of a status word (R176). -/
def decodeField (v : Nat) (e : FieldEntry) : String × FieldValue :=
  let x := v / 2 ^ e.offset % 2 ^ e.width
  match e.kind with
  | .flag => (e.label, .flag (x == 1))
  | .meanings table =>
    match table.find? fun m => m.1 == x with
    | some m => (e.label, .name m.2)
    | none => (e.label, .name reservedName)

/-- `decode(F, v)`: one named field for each entry of the family's table (R176, R181). -/
def decodeStatus (c : Cfg) (f : Family) (v : Nat) : List (String × FieldValue) :=
  (c.fam f).statusDecode.map (decodeField v)

/-- The raw read of a data register of W bits: the frames T_ID and T_ST (30_encoding.md R106, R75). -/
def drRead (bits : Nat) : Bridge (List Byte) := do
  tapGoTo .shiftDr
  tapShift (List.replicate (bits / 8) 0) bits true

/-- `READ_IDCODE` (R170); `s.dev` is written by the first one of a session that completes (R173). -/
def cmdReadIdcode : Bridge Flow := do
  checks true
  let c := (← get).cfg
  irLoad c.irIdcode c.famA.irLen
  let rx ← drRead 32
  let info := lookupId c (BitVec.ofNat 32 (assemble c.wordAssembly rx))
  modify fun s => { s with dev := s.dev <|> some info }
  done (.device info)

/-- `READ_STATUS` (R174). -/
def cmdReadStatus : Bridge Flow := do
  checks true
  let f ← cfgFamily
  let c := (← get).cfg
  irLoad (c.fam f).ir.status (c.fam f).irLen
  let rx ← drRead (c.fam f).statusBits
  let v := assemble c.wordAssembly rx
  done (.status ⟨(c.fam f).statusBits, v, decodeStatus c f v⟩)

/-- The meaning of `READ_IDCODE`. -/
def execReadIdcode (s : State) : Host.Outcome State Fault Refusal := commit cmdReadIdcode s

/-- The meaning of `READ_STATUS`. -/
def execReadStatus (s : State) : Host.Outcome State Fault Refusal := commit cmdReadStatus s

end Sys2Proof.Machine
end

