-- ==== Sys2Proof/Machine/Configuration.lean ====
section
/-! DEFINITION. The FPGA configuration sequencer (44_config_sequencer.md): the simple instructions (R250 to R255), the
bitstream burst (R256, R257, R261), and SPI passthrough (R258). -/

namespace Sys2Proof.Machine

/-- The optional one-byte parameter of an instruction: the frame T_P8 (R250, 30_encoding.md R106). -/
def sendParam (p : Option Byte) : Bridge Unit := do
  match p with
  | none => pure ()
  | some b =>
    tapGoTo .shiftDr
    let _ ← tapShift [b] 8 true

/-- `simpleCfg(n)` (R250): the settle is the last event. -/
def simpleCfg (n : IrName) : Bridge Flow := do
  checks true
  let f ← cfgFamily
  let c := (← get).cfg
  irLoad ((c.fam f).ir.get n) (c.fam f).irLen
  sendParam ((c.fam f).param.get n)
  tapGoTo .runTestIdle
  tapSettle c.settleCycles
  done .none

/-- `C_ENABLE` (R251). -/
def cmdCEnable : Bridge Flow := simpleCfg .enable
/-- `C_ERASE` (R252). -/
def cmdCErase : Bridge Flow := simpleCfg .erase
/-- `C_DISABLE` (R253). -/
def cmdCDisable : Bridge Flow := simpleCfg .disable
/-- `C_RESET_CRC` (R254). -/
def cmdCResetCrc : Bridge Flow := simpleCfg .resetCrc
/-- `C_REFRESH` (R255). What it does to an attached reference target is log 31. -/
def cmdCRefresh : Bridge Flow := simpleCfg .refresh

/-- `C_BURST` (R256): the TAP is parked in CAPTURE_DR and no settle follows. -/
def cmdCBurst : Bridge Flow := do
  checks true
  let f ← cfgFamily
  let c := (← get).cfg
  irLoad (c.fam f).ir.burst (c.fam f).irLen
  tapGoTo .captureDr
  modify fun s => { s with burstOpen := true }
  done .none

/-- `C_BURST_DATA d` (R257): bit-reversed bytes, one continuous DR shift; the received bytes are discarded. -/
def cmdCBurstData (data : List Byte) : Bridge Flow := do
  checks (xferLenOk (← get).cfg data.length)
  require (← get).burstOpen .noOpenBurst
  tapGoTo .shiftDr
  let _ ← tapShift (revBuf data) (8 * data.length) false
  done .none

/-- `C_PASSTHROUGH` (R258): the unlock shift is made while `s.pt = false`; only the end of the command sets it. Where its own
IR load fails, `s.pt` is left as it was (DEDUCED, log 33). -/
def cmdCPassthrough : Bridge Flow := do
  checks true
  let f ← cfgFamily
  let c := (← get).cfg
  irLoad (c.fam f).ir.passthrough (c.fam f).irLen
  tapGoTo .shiftDr
  let _ ← tapShift (c.fam f).unlock (8 * c.unlockLen) true
  tapGoTo .runTestIdle
  modify fun s => { s with pt := true }
  done .none

/-- The meaning of `C_ENABLE`. -/
def execCEnable (s : State) : Host.Outcome State Fault Refusal := commit cmdCEnable s
/-- The meaning of `C_ERASE`. -/
def execCErase (s : State) : Host.Outcome State Fault Refusal := commit cmdCErase s
/-- The meaning of `C_DISABLE`. -/
def execCDisable (s : State) : Host.Outcome State Fault Refusal := commit cmdCDisable s
/-- The meaning of `C_RESET_CRC`. -/
def execCResetCrc (s : State) : Host.Outcome State Fault Refusal := commit cmdCResetCrc s
/-- The meaning of `C_BURST`. -/
def execCBurst (s : State) : Host.Outcome State Fault Refusal := commit cmdCBurst s
/-- The meaning of `C_BURST_DATA`. -/
def execCBurstData (data : List Byte) (s : State) : Host.Outcome State Fault Refusal := commit (cmdCBurstData data) s
/-- The meaning of `C_REFRESH`. -/
def execCRefresh (s : State) : Host.Outcome State Fault Refusal := commit cmdCRefresh s
/-- The meaning of `C_PASSTHROUGH`. -/
def execCPassthrough (s : State) : Host.Outcome State Fault Refusal := commit cmdCPassthrough s

end Sys2Proof.Machine
end

