-- ==== Sys2Proof/Machine/SpiBridge.lean ====
section
/-! DEFINITION. The SPI-over-JTAG bridge (41_spi_bridge.md): its two primitives (R150, R151) and its host commands `SPI_XFER`,
`SPI_STREAM` and `SPI_END` (R155 to R157). -/

namespace Sys2Proof.Machine

/-- Both primitives need a frame of at least one byte (R150, R152; log 20). -/
def assertFrame (frame : List Byte) : Bridge Unit := if frame.isEmpty then throw (.assert .emptyFrame) else pure ()

/-- `rx <- transactSPI(frame)` (R150): a full transaction, or the end of a held one. -/
def transactSPI (frame : List Byte) : Bridge (List Byte) := do
  assertFrame frame
  let tx := revBuf frame
  if (← tapState) ≠ .shiftDr then tapGoTo .shiftDr
  let raw ← tapShift tx (8 * frame.length) true
  return revBuf raw

/-- `rx <- streamSPI(frame)` (R151): opens or continues a held transaction. -/
def streamSPI (frame : List Byte) : Bridge (List Byte) := do
  assertFrame frame
  let tx := revBuf frame
  tapGoTo .shiftDr
  let raw ← tapShift tx (8 * frame.length) false
  return revBuf raw

/-- `SPI_XFER DATA` (R155). -/
def cmdSpiXfer (data : List Byte) : Bridge Flow := do
  checks (xferLenOk (← get).cfg data.length)
  let rx ← transactSPI data
  modify fun s => { s with rdOpen := false }
  done (.bytes rx)

/-- `SPI_STREAM DATA` (R156). -/
def cmdSpiStream (data : List Byte) : Bridge Flow := do
  checks (xferLenOk (← get).cfg data.length)
  let rx ← streamSPI data
  done (.bytes rx)

/-- `SPI_END` (R157). -/
def cmdSpiEnd : Bridge Flow := do
  checks true
  tapGoTo .runTestIdle
  done .none

/-- The meaning of `SPI_XFER`. -/
def execSpiXfer (data : List Byte) (s : State) : Host.Outcome State Fault Refusal := commit (cmdSpiXfer data) s

/-- The meaning of `SPI_STREAM`. -/
def execSpiStream (data : List Byte) (s : State) : Host.Outcome State Fault Refusal := commit (cmdSpiStream data) s

/-- The meaning of `SPI_END`. -/
def execSpiEnd (s : State) : Host.Outcome State Fault Refusal := commit cmdSpiEnd s

end Sys2Proof.Machine
end

