-- ==== Sys2Proof/Machine/Flash.lean ====
section
/-! DEFINITION. The SPI NOR flash command sequencer (43_flash_commands.md): the prologue of every flash command (R200), its
frames, the busy wait (R218, R219), and the commands `F_WREN` to `F_RESET` (R201 to R221). -/

namespace Sys2Proof.Machine

/-- `flashPrologue(cmd)` (R200): the checks of R154, then the state refusal of `F_CONT_READ` (R217), then the hazard
marks, which never refuse. -/
def flashPrologue (k : FlashKind) (lenOk : Bool) : Bridge Unit := do
  checks lenOk
  require (k != .contRead || (← get).rdOpen) .noOpenRead
  modify fun s => s.flashHazards k

/-- A frame `[FLASH_OP(n)] ++ operands` as a full transaction, and the ghost fields after it (R223). -/
def sendFrame (n : FlashName) (operands : List Byte) : Bridge (List Byte) := do
  let rx ← transactSPI ((← get).cfg.flashOps.get n :: operands)
  modify fun s => s.afterFrame n
  return rx

/-- A header frame `[FLASH_OP(n)] ++ be24(a)`, chip select held (30_encoding.md R105, S3H). -/
def sendHeader (n : FlashName) (a : Addr) : Bridge Unit := do
  let _ ← streamSPI ((← get).cfg.flashOps.get n :: be24 a)

/-- Response byte 1 of a status read, which is the register (30_encoding.md R105, S1R). -/
def registerByte (rx : List Byte) : Byte := rx.getD 1 0

/-! ## Write-enable and write-disable -/

/-- `F_WREN` (R201). -/
def cmdFWren : Bridge Flow := do
  flashPrologue .plain true
  let _ ← sendFrame .wren []
  done .none

/-- `F_WRDI` (R202). -/
def cmdFWrdi : Bridge Flow := do
  flashPrologue .plain true
  let _ ← sendFrame .wrdi []
  done .none

/-! ## Status registers -/

/-- A status-register read: the frame S1R; the result is the register (R203). -/
def readRegister (k : FlashKind) (n : FlashName) : Bridge Flow := do
  flashPrologue k true
  let rx ← sendFrame n [0x00]
  done (.byte (registerByte rx))

/-- `F_RDSR1` (R203): allowed while a write is pending (R200). -/
def cmdFRdsr1 : Bridge Flow := readRegister .poll .rdsr1

/-- `F_RDSR2` (R204). -/
def cmdFRdsr2 : Bridge Flow := readRegister .plain .rdsr2

/-- `F_RDSR3` (R205). -/
def cmdFRdsr3 : Bridge Flow := readRegister .plain .rdsr3

/-- The status-register write frame with its mark (R206, R223). -/
def sendRegisterWrite (n : FlashName) (v : Byte) : Bridge Unit := do
  modify fun s => s.writeEnableHazard
  let _ ← sendFrame n [v]

/-- A status-register write (R206). -/
def writeRegister (n : FlashName) (v : Byte) : Bridge Flow := do
  flashPrologue .plain true
  sendRegisterWrite n v
  done .none

/-- `F_WRSR1 v` (R206). -/
def cmdFWrsr1 (v : Byte) : Bridge Flow := writeRegister .wrsr1 v

/-- `F_WRSR2 v` (R207). -/
def cmdFWrsr2 (v : Byte) : Bridge Flow := writeRegister .wrsr2 v

/-- `F_WRSR3 v` (R208). -/
def cmdFWrsr3 (v : Byte) : Bridge Flow := writeRegister .wrsr3 v

/-! ## Erase -/

/-- A write-enable frame, then an erase frame (R209, R211). -/
def eraseFrames (n : FlashName) (operands : List Byte) : Bridge Flow := do
  flashPrologue .plain true
  let _ ← sendFrame .wren []
  let _ ← sendFrame n operands
  done .none

/-- `F_CE` (R209). -/
def cmdFCe : Bridge Flow := eraseFrames .ce []

/-- `F_SE4K a` (R211): a is sent as given. -/
def cmdFSe4k (a : Addr) : Bridge Flow := eraseFrames .se4k (be24 a)

/-- `F_BE32K a` (R212). -/
def cmdFBe32k (a : Addr) : Bridge Flow := eraseFrames .be32k (be24 a)

/-- `F_BE64K a` (R213). -/
def cmdFBe64k (a : Addr) : Bridge Flow := eraseFrames .be64k (be24 a)

/-- The erase command of a granularity (R210). -/
def eraseCmd : Gran → Addr → Instr
  | .g4K, a => .fSe4k a
  | .g32K, a => .fBe32k a
  | .g64K, a => .fBe64k a

/-! ## Program -/

/-- The page-program transaction: the header held, then the data, which ends it; the ghost fields are those after the
data frame (R214, R223). -/
def sendPage (a : Addr) (data : List Byte) : Bridge Unit := do
  sendHeader .pp a
  let _ ← transactSPI data
  modify fun s => s.afterFrame .pp

/-- `F_PP a, d` (R214). -/
def cmdFPp (a : Addr) (data : List Byte) : Bridge Flow := do
  flashPrologue .plain (pageLenOk (← get).cfg a data.length)
  let _ ← sendFrame .wren []
  sendPage a data
  done .none

/-! ## Identification and reads -/

/-- The JEDEC ID frame; the ID is response bytes 1 on (R215, 30_encoding.md R105, SI). -/
def sendRdid : Bridge (List Byte) := do
  let rx ← sendFrame .rdid (List.replicate (← get).cfg.jedecIdLen 0x00)
  return rx.drop 1

/-- `F_RDID` (R215). -/
def cmdFRdid : Bridge Flow := do
  flashPrologue .plain true
  done (.bytes (← sendRdid))

/-- The read header, after which the streamed read is open (R216). -/
def openRead (a : Addr) : Bridge Unit := do
  sendHeader .read a
  modify fun s => { s with rdOpen := true }

/-- `F_READ a` (R216). -/
def cmdFRead (a : Addr) : Bridge Flow := do
  flashPrologue .plain true
  openRead a
  done .none

/-- n bytes of an open streamed read: 0x00 fill bytes, chip select held (R217). -/
def readFill (n : Nat) : Bridge (List Byte) := streamSPI (List.replicate n 0x00)

/-- `F_CONT_READ n` (R217). -/
def cmdFContRead (n : Len) : Bridge Flow := do
  flashPrologue .contRead (xferLenOk (← get).cfg n.toNat)
  done (.bytes (← readFill n.toNat))

/-! ## Busy wait -/

/-- A poll's outcome, with the polls made so far. -/
inductive Polled where
  | satisfied (polls : Nat)
  | unsatisfied (polls : Nat)
  deriving DecidableEq, Repr

/-- The debounce counter after a reading: one more, or 0 (R218, 10_state.md R52). -/
def debounce (count : Nat) (ready : Bool) : Nat := if ready then count + 1 else 0

/-- One round of the loop of `waitReady()` (R218): a poll, the debounce, and either the end of the wait or
`Delay(POLL_DELAY)`. A failed poll ends the wait too, and outside a wait the counter is 0 (10_state.md R52; log 7). -/
def waitPoll (polls : Nat) : Bridge Polled := fun s =>
  match sendFrame .rdsr1 [0x00] s with
  | .error e s' => .error e { s' with rdyCount := 0 }
  | .ok rx s' =>
    let count := debounce s'.rdyCount (!(registerByte rx).getLsbD s'.cfg.busyBit)
    if count = s'.cfg.readyDebounce then .ok (.satisfied (polls + 1)) { s' with rdyCount := 0, mustPoll := false }
    else .ok (.unsatisfied (polls + 1)) ({ s' with rdyCount := count }.emit (.delay s'.cfg.pollDelay))

/-- What a command does after its wait is satisfied: `F_WAIT` returns the polls (R218), `F_UNPROTECT` reads status
register 1 back (R220). -/
def afterWait (cmd : WaitCmd) (polls : Nat) : Bridge Flow := do
  match cmd with
  | .wait => done (.polls polls)
  | .unprotect =>
    let rx ← sendFrame .rdsr1 [0x00]
    done (.unprotect ⟨registerByte rx != 0x00, registerByte rx⟩)

/-- The wait of a command from a given poll on: one round of its loop in this step, and the rest in later steps. There
is no bound (R219; log 6). -/
def waitRound (cmd : WaitCmd) (polls : Nat) : Bridge Flow := do
  match ← waitPoll polls with
  | .satisfied n => afterWait cmd n
  | .unsatisfied n => return .waiting ⟨n, cmd, none⟩

/-- `waitReady()` from its start: the counter is 0 and no poll is made (R218). -/
def startWait (cmd : WaitCmd) : Bridge Flow := do
  modify fun s => { s with rdyCount := 0 }
  waitRound cmd 0

/-- `F_WAIT` (R218). -/
def cmdFWait : Bridge Flow := do
  flashPrologue .poll true
  startWait .wait

/-! ## Protection and reset -/

/-- `F_UNPROTECT` (R220). -/
def cmdFUnprotect : Bridge Flow := do
  flashPrologue .plain true
  sendRegisterWrite .wrsr1 0x00
  startWait .unprotect

/-- `F_RESET` (R221). -/
def cmdFReset : Bridge Flow := do
  flashPrologue .plain true
  let _ ← transactSPI (← get).cfg.flashResetFrame
  done .none

/-! ## The meanings -/

/-- The meaning of `F_WREN`. -/
def execFWren (s : State) : Host.Outcome State Fault Refusal := commit cmdFWren s
/-- The meaning of `F_WRDI`. -/
def execFWrdi (s : State) : Host.Outcome State Fault Refusal := commit cmdFWrdi s
/-- The meaning of `F_RDSR1`. -/
def execFRdsr1 (s : State) : Host.Outcome State Fault Refusal := commit cmdFRdsr1 s
/-- The meaning of `F_RDSR2`. -/
def execFRdsr2 (s : State) : Host.Outcome State Fault Refusal := commit cmdFRdsr2 s
/-- The meaning of `F_RDSR3`. -/
def execFRdsr3 (s : State) : Host.Outcome State Fault Refusal := commit cmdFRdsr3 s
/-- The meaning of `F_WRSR1`. -/
def execFWrsr1 (v : Byte) (s : State) : Host.Outcome State Fault Refusal := commit (cmdFWrsr1 v) s
/-- The meaning of `F_WRSR2`. -/
def execFWrsr2 (v : Byte) (s : State) : Host.Outcome State Fault Refusal := commit (cmdFWrsr2 v) s
/-- The meaning of `F_WRSR3`. -/
def execFWrsr3 (v : Byte) (s : State) : Host.Outcome State Fault Refusal := commit (cmdFWrsr3 v) s
/-- The meaning of `F_CE`. -/
def execFCe (s : State) : Host.Outcome State Fault Refusal := commit cmdFCe s
/-- The meaning of `F_SE4K`. -/
def execFSe4k (a : Addr) (s : State) : Host.Outcome State Fault Refusal := commit (cmdFSe4k a) s
/-- The meaning of `F_BE32K`. -/
def execFBe32k (a : Addr) (s : State) : Host.Outcome State Fault Refusal := commit (cmdFBe32k a) s
/-- The meaning of `F_BE64K`. -/
def execFBe64k (a : Addr) (s : State) : Host.Outcome State Fault Refusal := commit (cmdFBe64k a) s
/-- The meaning of `F_PP`. -/
def execFPp (a : Addr) (data : List Byte) (s : State) : Host.Outcome State Fault Refusal := commit (cmdFPp a data) s
/-- The meaning of `F_RDID`. -/
def execFRdid (s : State) : Host.Outcome State Fault Refusal := commit cmdFRdid s
/-- The meaning of `F_READ`. -/
def execFRead (a : Addr) (s : State) : Host.Outcome State Fault Refusal := commit (cmdFRead a) s
/-- The meaning of `F_CONT_READ`. -/
def execFContRead (n : Len) (s : State) : Host.Outcome State Fault Refusal := commit (cmdFContRead n) s
/-- The meaning of `F_WAIT`. -/
def execFWait (s : State) : Host.Outcome State Fault Refusal := commit cmdFWait s
/-- The meaning of `F_UNPROTECT`. -/
def execFUnprotect (s : State) : Host.Outcome State Fault Refusal := commit cmdFUnprotect s
/-- The meaning of `F_RESET`. -/
def execFReset (s : State) : Host.Outcome State Fault Refusal := commit cmdFReset s

end Sys2Proof.Machine
end

