-- ==== Sys2Proof/Machine/Frames.lean ====
section
/-! DEFINITION. The SPI and TAP rows of the opcode table as instructions of their own: one frame of 30_encoding.md R105 or
R106, sent by itself as the host commands send it. A host cannot name a frame; the model presents them so that every row
of the table has its meaning (DESIGN CHOICE, log 10). Each does the common checks, then what the commands do when they
send the frame, with the frame's ghost updates and mark (43_flash_commands.md R223, 44_config_sequencer.md R260). The marks
of R200 belong to commands, not to frames. -/

namespace Sys2Proof.Machine

/-- A frame without a response of interest. -/
def frameRow (n : FlashName) (operands : List Byte) : Bridge Flow := do
  checks true
  let _ ← sendFrame n operands
  done .none

/-- A status-register read frame (R105, S1R). -/
def readRow (n : FlashName) : Bridge Flow := do
  checks true
  let rx ← sendFrame n [0x00]
  done (.byte (registerByte rx))

/-- A status-register write frame (R105, S1W), with its mark (R223). -/
def writeRow (n : FlashName) (v : Byte) : Bridge Flow := do
  checks true
  sendRegisterWrite n v
  done .none

/-- The page-program transaction (R105, S3H and SD), under the length rule of its command (20_memory.md R79). -/
def cmdOpPp (a : Addr) (data : List Byte) : Bridge Flow := do
  checks (pageLenOk (← get).cfg a data.length)
  sendPage a data
  done .none

/-- The JEDEC ID frame (R105, SI). -/
def cmdOpRdid : Bridge Flow := do
  checks true
  done (.bytes (← sendRdid))

/-- The read header, and as many bytes of the streamed read as the frame holds (R105, S3H and SD). -/
def cmdOpRead (a : Addr) (count : Nat) : Bridge Flow := do
  checks (decide (count ≤ (← get).cfg.maxXferBytes))
  openRead a
  if count = 0 then done (.bytes [])
  else done (.bytes (← readFill count))

/-- Loading one of the family's instructions: the frame T_IR (R106). -/
def irRow (n : IrName) : Bridge Flow := do
  checks true
  let f ← cfgFamily
  let c := (← get).cfg
  irLoad ((c.fam f).ir.get n) (c.fam f).irLen
  done .none

/-- Loading the IDCODE instruction, which needs no family (R104). -/
def cmdIrIdcode : Bridge Flow := do
  checks true
  let c := (← get).cfg
  irLoad c.irIdcode c.famA.irLen
  done .none

/-- The meaning of `SPI.WREN`. -/
def execOpWren (s : State) : Host.Outcome State Fault Refusal := commit (frameRow .wren []) s
/-- The meaning of `SPI.WRDI`. -/
def execOpWrdi (s : State) : Host.Outcome State Fault Refusal := commit (frameRow .wrdi []) s
/-- The meaning of `SPI.RDSR1`. -/
def execOpRdsr1 (s : State) : Host.Outcome State Fault Refusal := commit (readRow .rdsr1) s
/-- The meaning of `SPI.RDSR2`. -/
def execOpRdsr2 (s : State) : Host.Outcome State Fault Refusal := commit (readRow .rdsr2) s
/-- The meaning of `SPI.RDSR3`. -/
def execOpRdsr3 (s : State) : Host.Outcome State Fault Refusal := commit (readRow .rdsr3) s
/-- The meaning of `SPI.WRSR1`. -/
def execOpWrsr1 (v : Byte) (s : State) : Host.Outcome State Fault Refusal := commit (writeRow .wrsr1 v) s
/-- The meaning of `SPI.WRSR2`. -/
def execOpWrsr2 (v : Byte) (s : State) : Host.Outcome State Fault Refusal := commit (writeRow .wrsr2 v) s
/-- The meaning of `SPI.WRSR3`. -/
def execOpWrsr3 (v : Byte) (s : State) : Host.Outcome State Fault Refusal := commit (writeRow .wrsr3 v) s
/-- The meaning of `SPI.CE`. -/
def execOpCe (s : State) : Host.Outcome State Fault Refusal := commit (frameRow .ce []) s
/-- The meaning of `SPI.SE4K`. -/
def execOpSe4k (a : Addr) (s : State) : Host.Outcome State Fault Refusal := commit (frameRow .se4k (be24 a)) s
/-- The meaning of `SPI.BE32K`. -/
def execOpBe32k (a : Addr) (s : State) : Host.Outcome State Fault Refusal := commit (frameRow .be32k (be24 a)) s
/-- The meaning of `SPI.BE64K`. -/
def execOpBe64k (a : Addr) (s : State) : Host.Outcome State Fault Refusal := commit (frameRow .be64k (be24 a)) s
/-- The meaning of `SPI.PP`. -/
def execOpPp (a : Addr) (data : List Byte) (s : State) : Host.Outcome State Fault Refusal := commit (cmdOpPp a data) s
/-- The meaning of `SPI.RDID`. -/
def execOpRdid (s : State) : Host.Outcome State Fault Refusal := commit cmdOpRdid s
/-- The meaning of `SPI.FAST_READ`: "No command sends `FLASH_OP(FAST_READ)`", and it has "no host command"
(43_flash_commands.md R222). -/
def execOpFastRead (_s : State) : Host.Outcome State Fault Refusal := .refused .fastReadNeverSent
/-- The meaning of `SPI.READ`. -/
def execOpRead (a : Addr) (count : Nat) (s : State) : Host.Outcome State Fault Refusal := commit (cmdOpRead a count) s
/-- The meaning of `IR.IDCODE`. -/
def execIrIdcode (s : State) : Host.Outcome State Fault Refusal := commit cmdIrIdcode s
/-- The meaning of `IR.STATUS`. -/
def execIrStatus (s : State) : Host.Outcome State Fault Refusal := commit (irRow .status) s
/-- The meaning of `IR.ENABLE`. -/
def execIrEnable (s : State) : Host.Outcome State Fault Refusal := commit (irRow .enable) s
/-- The meaning of `IR.ERASE`. -/
def execIrErase (s : State) : Host.Outcome State Fault Refusal := commit (irRow .erase) s
/-- The meaning of `IR.DISABLE`. -/
def execIrDisable (s : State) : Host.Outcome State Fault Refusal := commit (irRow .disable) s
/-- The meaning of `IR.RESET_CRC`. -/
def execIrResetCrc (s : State) : Host.Outcome State Fault Refusal := commit (irRow .resetCrc) s
/-- The meaning of `IR.BURST`. -/
def execIrBurst (s : State) : Host.Outcome State Fault Refusal := commit (irRow .burst) s
/-- The meaning of `IR.REFRESH`. -/
def execIrRefresh (s : State) : Host.Outcome State Fault Refusal := commit (irRow .refresh) s
/-- The meaning of `IR.PASSTHROUGH`. -/
def execIrPassthrough (s : State) : Host.Outcome State Fault Refusal := commit (irRow .passthrough) s

end Sys2Proof.Machine
end

