-- ==== Sys2Proof/Machine/Orchestrator.lean ====
section
/-! DEFINITION. The programming orchestrator (45_orchestrator.md): the expansions of the seven macros (R282 to R294), how an
expansion runs (R280, R296, R297), their validation (R281), and the macros' meanings. An expansion is a list: "Each
expands to a fixed sequence of other commands" (30_encoding.md R116). -/

namespace Sys2Proof.Machine

/-! ## Phases and sub-commands -/

/-- `s.orch <- o` (R280). -/
def State.enterPhase (s : State) (o : OrchState) : State := { s with orch := o, orchLog := s.orchLog ++ [o] }

/-- `s.orch <- o`, in a command. -/
def enterPhase (o : OrchState) : Bridge Unit := modify fun s => s.enterPhase o

/-- The commands a macro may run, "exactly as its own rule says": the commands of 41_spi_bridge.md to
44_config_sequencer.md. Sessions, macros and bare frames are no sub-commands; no expansion holds one (log 20). -/
def subCommand : Instr → Bridge Flow
  | .spiXfer data => cmdSpiXfer data
  | .spiStream data => cmdSpiStream data
  | .spiEnd => cmdSpiEnd
  | .readIdcode => cmdReadIdcode
  | .readStatus => cmdReadStatus
  | .fWren => cmdFWren
  | .fWrdi => cmdFWrdi
  | .fRdsr1 => cmdFRdsr1
  | .fRdsr2 => cmdFRdsr2
  | .fRdsr3 => cmdFRdsr3
  | .fWrsr1 v => cmdFWrsr1 v
  | .fWrsr2 v => cmdFWrsr2 v
  | .fWrsr3 v => cmdFWrsr3 v
  | .fCe => cmdFCe
  | .fSe4k a => cmdFSe4k a
  | .fBe32k a => cmdFBe32k a
  | .fBe64k a => cmdFBe64k a
  | .fPp a data => cmdFPp a data
  | .fRdid => cmdFRdid
  | .fRead a => cmdFRead a
  | .fContRead n => cmdFContRead n
  | .fWait => cmdFWait
  | .fUnprotect => cmdFUnprotect
  | .fReset => cmdFReset
  | .cEnable => cmdCEnable
  | .cErase => cmdCErase
  | .cDisable => cmdCDisable
  | .cResetCrc => cmdCResetCrc
  | .cBurst => cmdCBurst
  | .cBurstData data => cmdCBurstData data
  | .cRefresh => cmdCRefresh
  | .cPassthrough => cmdCPassthrough
  | .sessionOpen _ | .sessionClose | .mIdentify | .mProbe _ | .mLoadSram _ _ | .mProgram _ _ _ _
  | .mRead _ _ _ | .mErase _ _ _ _ | .mVerify _ _ _
  | .opWren | .opWrdi | .opRdsr1 | .opRdsr2 | .opRdsr3 | .opWrsr1 _ | .opWrsr2 _ | .opWrsr3 _ | .opCe
  | .opSe4k _ | .opBe32k _ | .opBe64k _ | .opPp _ _ | .opRdid | .opFastRead | .opRead _ _
  | .irIdcode | .irStatus | .irEnable | .irErase | .irDisable | .irResetCrc | .irBurst | .irRefresh
  | .irPassthrough => throw (.assert .notASubCommand)

/-- What a macro keeps of a sub-command's data (R282 to R292). The first mismatch stays (R291). -/
def keepData (k : Keep) (d : ResultData) (n : Notes) : Notes :=
  match k, d with
  | .fresh, .device x => { n with fresh := some x }
  | .status, .status r => { n with status := some r }
  | .jedec, .bytes b => { n with jedec := b }
  | .sr1, .byte v => { n with sr1 := some v }
  | .unprotect, .unprotect u => { n with unprotect := some u }
  | .append, .bytes b => { n with out := n.out ++ b }
  | .compare a expected, .bytes b => { n with first := n.first <|> firstDiff a b expected }
  | _, _ => n

/-! ## The expansions -/

/-- A sub-command whose data the macro does not keep. -/
def runIt (i : Instr) : PlanItem := .sub i .nothing

/-- `identifyPhase()` (R282). -/
def identifyPhase : List PlanItem := [.enter .identify, .sub .readIdcode .fresh, .statusIfKnown]

/-- `flashEntry()` (R282). -/
def flashEntry : List PlanItem :=
  [runIt .cEnable, runIt .cErase, runIt .cDisable, runIt .cPassthrough, runIt .fReset, .sub .fRdid .jedec]

/-- `if REFRESH: s.orch <- Refresh; run C_REFRESH` (R295). -/
def refreshPhase (opts : Byte) : List PlanItem :=
  if optRefresh opts then [.enter .refresh, runIt .cRefresh] else []

/-- `eraseRange(offset, length, gran)` (R288). -/
def eraseRange (c : Cfg) (offset : Addr) (length : Nat) (g : Gran) : List PlanItem :=
  (eraseBlocks offset.toNat length (c.eraseSize g)).flatMap fun a =>
    [runIt (eraseCmd g (BitVec.ofNat 24 a)), runIt .fWait]

/-- `bulkErase()` (R289). -/
def bulkErase : List PlanItem := [runIt .fCe, runIt .fWait]

/-- `programLoop(offset, S)` (R290). -/
def programLoop (c : Cfg) (offset : Addr) (data : List Byte) : List PlanItem :=
  (pagePieces c offset data).flatMap fun p => [runIt (.fPp (BitVec.ofNat 24 p.1) p.2), runIt .fWait]

/-- `verifyLoop(offset, S)` (R291): one held read per chunk; the scan goes on after a mismatch. -/
def verifyLoop (c : Cfg) (offset : Addr) (data : List Byte) : List PlanItem :=
  (verifyChunks c offset data).flatMap fun p =>
    [runIt (.fRead (BitVec.ofNat 24 p.1)), .sub (.fContRead (BitVec.ofNat 32 p.2.length)) (.compare p.1 p.2),
     runIt .spiEnd]

/-- `M_IDENTIFY` (R283). -/
def planIdentify : List PlanItem := identifyPhase

/-- `M_PROBE` (R284). -/
def planProbe (opts : Byte) : List PlanItem :=
  identifyPhase ++ [.enter .probe] ++ flashEntry ++ [.sub .fRdsr1 .sr1] ++ refreshPhase opts

/-- `M_LOAD_SRAM` (R285). -/
def planLoadSram (c : Cfg) (data : List Byte) (opts : Byte) : List PlanItem :=
  identifyPhase ++ [.enter .loadSram, runIt .cEnable, runIt .cErase, runIt .cResetCrc, runIt .cBurst]
    ++ (sramChunks c data).map (fun d => runIt (.cBurstData d)) ++ [runIt .cDisable] ++ refreshPhase opts

/-- The erase part of `M_PROGRAM`: bulk, the region, or none (R286). -/
def programErase (c : Cfg) (offset : Addr) (g : Gran) (data : List Byte) (opts : Byte) : List PlanItem :=
  if optBulk opts then bulkErase
  else if optNoErase opts then []
  else eraseRange c offset data.length g

/-- `M_PROGRAM` (R286). -/
def planProgram (c : Cfg) (offset : Addr) (g : Gran) (data : List Byte) (opts : Byte) : List PlanItem :=
  identifyPhase ++ [.enter .programFlash] ++ flashEntry
    ++ (if optUnprotect opts then [runIt .fWren, .sub .fUnprotect .unprotect] else [])
    ++ programErase c offset g data opts ++ programLoop c offset data
    ++ (if optNoVerify opts then [] else verifyLoop c offset data) ++ refreshPhase opts

/-- The read part of `M_READ` (R292): one held read in chunks. -/
def readLoop (c : Cfg) (offset : Addr) (len : Nat) : List PlanItem :=
  if len = 0 then []
  else runIt (.fRead offset) :: (readSizes c len).map (fun n => .sub (.fContRead (BitVec.ofNat 32 n)) .append)
    ++ [runIt .spiEnd]

/-- `M_READ` (R292). -/
def planRead (c : Cfg) (offset : Addr) (len : Nat) (opts : Byte) : List PlanItem :=
  identifyPhase ++ [.enter .readFlash] ++ flashEntry ++ readLoop c offset len ++ refreshPhase opts

/-- `M_ERASE` (R293). -/
def planErase (c : Cfg) (offset : Addr) (len : Nat) (g : Gran) (opts : Byte) : List PlanItem :=
  identifyPhase ++ [.enter .eraseFlash] ++ flashEntry ++ eraseRange c offset len g ++ refreshPhase opts

/-- `M_VERIFY` (R294). -/
def planVerify (c : Cfg) (offset : Addr) (data : List Byte) (opts : Byte) : List PlanItem :=
  identifyPhase ++ [.enter .verifyFlash] ++ flashEntry ++ verifyLoop c offset data ++ refreshPhase opts

/-! ## Running an expansion -/

/-- The result of a macro that ran to its end (R283 to R296): OK with its data, or VERIFY_MISMATCH. -/
def macroResult (k : MacroKind) (dev : Option DeviceInfo) (n : Notes) : Flow :=
  match k with
  | .identify => .ended .ok (.identity dev n.status)
  | .probe => .ended .ok (.probe dev n.status n.jedec n.sr1)
  | .loadSram => .ended .ok .none
  | .program =>
    .ended (if n.first.isSome then .verifyMismatch else .ok) (.program dev n.jedec n.unprotect n.first)
  | .read => .ended .ok (.bytes n.out)
  | .erase => .ended .ok .none
  | .verify =>
    match n.first with
    | some a => .ended .verifyMismatch (.mismatch a)
    | none => .ended .ok .none

/-- "It enters Done after the last sub-command. It returns to Idle when the result is returned." (R280) -/
def finishMacro (k : MacroKind) (n : Notes) : Bridge Flow := do
  enterPhase .done
  let r := macroResult k (← get).dev n
  enterPhase .idle
  return r

/-- `identifyPhase` issues `READ_STATUS` unless, under the policy `Refuse`, the device just read is Unknown (R282), or the
session's is: then "READ_STATUS would be refused; it is not issued", so that `M_IDENTIFY` has "no refusals beyond rule R281"
and "family Unknown is a success" (R283; DEDUCED, log 17). -/
def statusWanted (s : State) (n : Notes) : Bool :=
  !(s.cfg.unknownPolicy == .refuse && [n.fresh, s.dev].any fun d => d.any fun d => d.family == .unknown)

/-- The items of an expansion, one after another, each sub-command's result kept as the last result (10_state.md R53).
A sub-command that waits leaves the rest for later steps. A raise ends the macro (R297). -/
def runPlan (k : MacroKind) : List PlanItem → Notes → Bridge Flow
  | [], n => finishMacro k n
  | .enter o :: rest, n => do
    enterPhase o
    runPlan k rest n
  | .sub i keep :: rest, n => do
    match ← subCommand i with
    | .waiting t => return .waiting { t with outer := some ⟨k, keep, rest, n⟩ }
    | .ended kind d =>
      modify fun s => s.setResult ⟨kind, .none, d⟩
      runPlan k rest (keepData keep d n)
  | .statusIfKnown :: rest, n => do
    if statusWanted (← get) n then
      match ← cmdReadStatus with
      | .waiting t => return .waiting { t with outer := some ⟨k, .status, rest, n⟩ }
      | .ended kind d =>
        modify fun s => s.setResult ⟨kind, .none, d⟩
        runPlan k rest (keepData .status d n)
    else runPlan k rest n

/-- "A macro that stops early (rule R297) goes straight to Idle" (R280). -/
def idleOnStop (b : Bridge Flow) : Bridge Flow := fun s =>
  match b s with
  | .ok f s' => .ok f s'
  | .error e s' => .error e (s'.enterPhase .idle)

/-- A macro from its start. -/
def runMacro (k : MacroKind) (items : List PlanItem) : Bridge Flow := idleOnStop (runPlan k items {})

/-- A macro goes on after the sub-command it was waiting in. -/
def continueMacro (e : Expansion) (f : Flow) : Bridge Flow := do
  match f with
  | .waiting t => return .waiting { t with outer := some e }
  | .ended kind d =>
    modify fun s => s.setResult ⟨kind, .none, d⟩
    runPlan e.kind e.rest (keepData e.keep d e.notes)

/-- A command in progress goes on: one more poll, and if that satisfies the wait, the rest of the command and of its
macro up to the next wait (43_flash_commands.md R218, R219; log 6). -/
def resumeTask (t : Task) : Bridge Flow :=
  match t.outer with
  | none => waitRound t.cmd t.polls
  | some e => idleOnStop do
    let f ← waitRound t.cmd t.polls
    continueMacro e f

/-- One step of a command in progress. -/
def resume (t : Task) (s : State) : Host.Outcome State Fault Refusal := commit (resumeTask t) { s with task := none }

/-! ## The macros -/

/-- The validation of a macro (R281): session, options, range, length, in this order. The header has been checked by
then (log 8); the sticky error is found by the first sub-command. -/
def macroChecks (optionsOk rangeOk lengthOk : Bool) : Bridge Unit := do
  checkSession
  require optionsOk .badOptions
  require rangeOk .badAddress
  require lengthOk .badLength

/-- `M_IDENTIFY` (R283). -/
def cmdMIdentify : Bridge Flow := do
  macroChecks true true true
  runMacro .identify planIdentify

/-- `M_PROBE {opts}` (R284). -/
def cmdMProbe (opts : Byte) : Bridge Flow := do
  macroChecks (optsOk refreshOnly opts) true true
  runMacro .probe (planProbe opts)

/-- `M_LOAD_SRAM data {opts}` (R285): any length. -/
def cmdMLoadSram (data : List Byte) (opts : Byte) : Bridge Flow := do
  macroChecks (optsOk refreshOnly opts) true true
  runMacro .loadSram (planLoadSram (← get).cfg data opts)

/-- `M_PROGRAM offset, gran, data {opts}` (R286). A GRAN of 3 is refused whatever the options (30_encoding.md R107; log
23). -/
def cmdMProgram (offset : Addr) (gran : BitVec 2) (data : List Byte) (opts : Byte) : Bridge Flow := do
  macroChecks (optsOk programOpts opts && (granOf gran).isSome) (rangeOk offset data.length) (macroLenOk data.length)
  runMacro .program (planProgram (← get).cfg offset ((granOf gran).getD .g4K) data opts)

/-- `M_READ offset, len {opts}` (R292). -/
def cmdMRead (offset : Addr) (len : Len) (opts : Byte) : Bridge Flow := do
  macroChecks (optsOk refreshOnly opts) (rangeOk offset len.toNat) (macroLenOk len.toNat)
  runMacro .read (planRead (← get).cfg offset len.toNat opts)

/-- `M_ERASE offset, len, gran {opts}` (R293). -/
def cmdMErase (offset : Addr) (len : Len) (gran : BitVec 2) (opts : Byte) : Bridge Flow := do
  macroChecks (optsOk refreshOnly opts && (granOf gran).isSome) (rangeOk offset len.toNat) (macroLenOk len.toNat)
  runMacro .erase (planErase (← get).cfg offset len.toNat ((granOf gran).getD .g4K) opts)

/-- `M_VERIFY offset, data {opts}` (R294). -/
def cmdMVerify (offset : Addr) (data : List Byte) (opts : Byte) : Bridge Flow := do
  macroChecks (optsOk refreshOnly opts) (rangeOk offset data.length) (macroLenOk data.length)
  runMacro .verify (planVerify (← get).cfg offset data opts)

/-- The meaning of `M_IDENTIFY`. -/
def execMIdentify (s : State) : Host.Outcome State Fault Refusal := commit cmdMIdentify s
/-- The meaning of `M_PROBE`. -/
def execMProbe (opts : Byte) (s : State) : Host.Outcome State Fault Refusal := commit (cmdMProbe opts) s
/-- The meaning of `M_LOAD_SRAM`. -/
def execMLoadSram (data : List Byte) (opts : Byte) (s : State) : Host.Outcome State Fault Refusal :=
  commit (cmdMLoadSram data opts) s
/-- The meaning of `M_PROGRAM`. -/
def execMProgram (offset : Addr) (gran : BitVec 2) (data : List Byte) (opts : Byte) (s : State) :
    Host.Outcome State Fault Refusal := commit (cmdMProgram offset gran data opts) s
/-- The meaning of `M_READ`. -/
def execMRead (offset : Addr) (len : Len) (opts : Byte) (s : State) : Host.Outcome State Fault Refusal :=
  commit (cmdMRead offset len opts) s
/-- The meaning of `M_ERASE`. -/
def execMErase (offset : Addr) (len : Len) (gran : BitVec 2) (opts : Byte) (s : State) :
    Host.Outcome State Fault Refusal := commit (cmdMErase offset len gran opts) s
/-- The meaning of `M_VERIFY`. -/
def execMVerify (offset : Addr) (data : List Byte) (opts : Byte) (s : State) :
    Host.Outcome State Fault Refusal := commit (cmdMVerify offset data opts) s

end Sys2Proof.Machine
end

