-- ==== Sys2Proof/Machine/Sessions.lean ====
section
/-! DEFINITION. The session, which is the bridge's reset (70_reset_and_hazards.md): `SESSION_OPEN` (R371) and
`SESSION_CLOSE` (R372). -/

namespace Sys2Proof.Machine

/-- `s <- reset state of R56` with the session Closed: every field of R30; the parameters, the ports and what runs on
the host port are not of that record and stay; so does a reference target that is still known ("The target's state is not
reset", R371; log 27). `tap` is a draw (log 5). -/
def State.sessionReset (s : State) : State :=
  { s with
    session := .closed
    err := false
    dev := none
    tap := Config.tapDraw s.drawn
    orch := .idle
    rdOpen := false
    burstOpen := false
    rdyCount := 0
    result := none
    pt := false
    weIssued := false
    mustPoll := false
    hz := {} }

/-- `emit Close` (R371, R372): no TAP event. "What the target sees when the transport closes is outside the model" (R372,
93_implementation_defined.md U19: any value): with a DR stay or a burst open, a reference target is known no more (DESIGN
CHOICE, log 27); else it stays as it is, a busy flash and the FPGA's mode included (R371). -/
def State.closePort (s : State) : State :=
  let s1 := s.emit .closed
  if s.tap = .shiftDr ∨ s.burstOpen = true then s1.loseTarget else s1

/-- `if s.session == Open: emit Close` (R371). -/
def State.closeIfOpen (s : State) : State := if s.session = .opened then s.closePort else s

/-- `SESSION_OPEN sel` after its checks (R371): the answer is the oracle's, which also says where the TAP starts. -/
def State.openSession (s : State) (sel : List Byte) : State :=
  let a := s.nextAnswer
  let s1 := ((s.closeIfOpen).emit (.opened sel)).advance.sessionReset
  bif a.ok then { s1 with tap := a.tap, session := .opened }.answer ⟨.ok, .none, .none⟩
  else s1.answer ⟨.commFailure, .sessionOpenFailed, .none⟩

/-- The meaning of `SESSION_OPEN` (R371). It tests neither the session nor the sticky error. -/
def execSessionOpen (sel : List Byte) (s : State) : Host.Outcome State Fault Refusal :=
  .next (if sel.length ≤ s.cfg.maxXferBytes then s.openSession sel else s.answer ⟨.refused, .badLength, .none⟩)

/-- `SESSION_CLOSE` (R372): `s.session` only; never short-circuited by the sticky error. -/
def cmdSessionClose : Bridge Flow := do
  checkSession
  modify fun s => { s.closePort with session := .closed }
  done .none

/-- The meaning of `SESSION_CLOSE`. -/
def execSessionClose (s : State) : Host.Outcome State Fault Refusal := commit cmdSessionClose s

end Sys2Proof.Machine
end

