-- ==== Sys2Proof/Machine/Dispatch.lean ====
section
/-! DEFINITION. One arm for each instruction. -/

namespace Sys2Proof.Machine

def exec (i : Instr) (s : State) : Host.Outcome State Fault Refusal :=
  match i with
  | .sessionOpen sel => Sys2Proof.Machine.execSessionOpen sel s
  | .sessionClose => Sys2Proof.Machine.execSessionClose s
  | .spiXfer data => Sys2Proof.Machine.execSpiXfer data s
  | .spiStream data => Sys2Proof.Machine.execSpiStream data s
  | .spiEnd => Sys2Proof.Machine.execSpiEnd s
  | .readIdcode => Sys2Proof.Machine.execReadIdcode s
  | .readStatus => Sys2Proof.Machine.execReadStatus s
  | .fWren => Sys2Proof.Machine.execFWren s
  | .fWrdi => Sys2Proof.Machine.execFWrdi s
  | .fRdsr1 => Sys2Proof.Machine.execFRdsr1 s
  | .fRdsr2 => Sys2Proof.Machine.execFRdsr2 s
  | .fRdsr3 => Sys2Proof.Machine.execFRdsr3 s
  | .fWrsr1 value => Sys2Proof.Machine.execFWrsr1 value s
  | .fWrsr2 value => Sys2Proof.Machine.execFWrsr2 value s
  | .fWrsr3 value => Sys2Proof.Machine.execFWrsr3 value s
  | .fCe => Sys2Proof.Machine.execFCe s
  | .fSe4k addr => Sys2Proof.Machine.execFSe4k addr s
  | .fBe32k addr => Sys2Proof.Machine.execFBe32k addr s
  | .fBe64k addr => Sys2Proof.Machine.execFBe64k addr s
  | .fPp addr data => Sys2Proof.Machine.execFPp addr data s
  | .fRdid => Sys2Proof.Machine.execFRdid s
  | .fRead addr => Sys2Proof.Machine.execFRead addr s
  | .fContRead len => Sys2Proof.Machine.execFContRead len s
  | .fWait => Sys2Proof.Machine.execFWait s
  | .fUnprotect => Sys2Proof.Machine.execFUnprotect s
  | .fReset => Sys2Proof.Machine.execFReset s
  | .cEnable => Sys2Proof.Machine.execCEnable s
  | .cErase => Sys2Proof.Machine.execCErase s
  | .cDisable => Sys2Proof.Machine.execCDisable s
  | .cResetCrc => Sys2Proof.Machine.execCResetCrc s
  | .cBurst => Sys2Proof.Machine.execCBurst s
  | .cBurstData data => Sys2Proof.Machine.execCBurstData data s
  | .cRefresh => Sys2Proof.Machine.execCRefresh s
  | .cPassthrough => Sys2Proof.Machine.execCPassthrough s
  | .mIdentify => Sys2Proof.Machine.execMIdentify s
  | .mProbe opts => Sys2Proof.Machine.execMProbe opts s
  | .mLoadSram data opts => Sys2Proof.Machine.execMLoadSram data opts s
  | .mProgram offset gran data opts => Sys2Proof.Machine.execMProgram offset gran data opts s
  | .mRead offset len opts => Sys2Proof.Machine.execMRead offset len opts s
  | .mErase offset len gran opts => Sys2Proof.Machine.execMErase offset len gran opts s
  | .mVerify offset data opts => Sys2Proof.Machine.execMVerify offset data opts s
  | .opWren => Sys2Proof.Machine.execOpWren s
  | .opWrdi => Sys2Proof.Machine.execOpWrdi s
  | .opRdsr1 => Sys2Proof.Machine.execOpRdsr1 s
  | .opRdsr2 => Sys2Proof.Machine.execOpRdsr2 s
  | .opRdsr3 => Sys2Proof.Machine.execOpRdsr3 s
  | .opWrsr1 value => Sys2Proof.Machine.execOpWrsr1 value s
  | .opWrsr2 value => Sys2Proof.Machine.execOpWrsr2 value s
  | .opWrsr3 value => Sys2Proof.Machine.execOpWrsr3 value s
  | .opCe => Sys2Proof.Machine.execOpCe s
  | .opSe4k addr => Sys2Proof.Machine.execOpSe4k addr s
  | .opBe32k addr => Sys2Proof.Machine.execOpBe32k addr s
  | .opBe64k addr => Sys2Proof.Machine.execOpBe64k addr s
  | .opPp addr data => Sys2Proof.Machine.execOpPp addr data s
  | .opRdid => Sys2Proof.Machine.execOpRdid s
  | .opFastRead => Sys2Proof.Machine.execOpFastRead s
  | .opRead addr count => Sys2Proof.Machine.execOpRead addr count s
  | .irIdcode => Sys2Proof.Machine.execIrIdcode s
  | .irStatus => Sys2Proof.Machine.execIrStatus s
  | .irEnable => Sys2Proof.Machine.execIrEnable s
  | .irErase => Sys2Proof.Machine.execIrErase s
  | .irDisable => Sys2Proof.Machine.execIrDisable s
  | .irResetCrc => Sys2Proof.Machine.execIrResetCrc s
  | .irBurst => Sys2Proof.Machine.execIrBurst s
  | .irRefresh => Sys2Proof.Machine.execIrRefresh s
  | .irPassthrough => Sys2Proof.Machine.execIrPassthrough s

end Sys2Proof.Machine
end

