-- ==== Sys2Proof/Machine/HostPort.lean ====
section
/-! DEFINITION. The host port (30_encoding.md R100, R109): which instruction values decode a bare TAP frame, and what the
bridge answers to an input that decodes to no instruction. -/

namespace Sys2Proof.Machine

/-- The family whose TAP instruction values decode a bare T_IR frame: the identified device's; FamilyA's while none is
known (log 11). A host command's decoding does not depend on it. -/
def State.irFamily (s : State) : Family :=
  match s.dev with
  | some d => if d.family = .unknown then .familyA else d.family
  | none => .familyA

/-- The reason for refusing a malformed header: `NO_SESSION` comes first (60_exceptions.md R339) for every command but
`SESSION_OPEN`, which is "never refused with `NO_SESSION`" (70_reset_and_hazards.md R371); else `BAD_COMMAND` (R109; log
8). -/
def headerReason (session : Session) (code : Byte) : Reason :=
  if session = .closed ∧ code ≠ 0x01 then .noSession else .badCommand

/-- What the bridge does with an input that decodes to no instruction. A host command "emits no event and changes no
state except `s.result`" (R109); a frame outside the tables is never sent (R111, R114). -/
def rejectInput (x : Fetch) (s : State) : Host.Outcome State Fault Refusal :=
  match x with
  | .host d => .next (s.answer ⟨.refused, headerReason s.session (hCode d.header), .none⟩)
  | .spi _ => .refused .frameOutsideTables
  | .tap _ => .refused .frameOutsideTables

end Sys2Proof.Machine
end

