-- ==== Sys2Proof/Machine/Step.lean ====
section
/-! DEFINITION. One step of the bridge. A command in progress goes on first ("Every command runs to completion before the
next command starts", 00_scope.md R10); then the next input of the host port runs; with nothing to do the bridge "does
nothing until the host issues a command" (70_reset_and_hazards.md R370). -/

namespace Sys2Proof.Machine

/-- One step. -/
def step (s : State) : Host.Outcome State Fault Refusal :=
  match s.task with
  | some t => resume t s
  | none =>
    match s.inbox with
    | [] => .next s
    | x :: rest =>
      match decode s.cfg s.irFamily x with
      | .ok i => exec i { s with inbox := rest }
      | .error _ => rejectInput x { s with inbox := rest }

/-- The state whose very next step fetches and runs the instruction of a word of the opcode table: it is put at the head
of the host port, and no command is in progress (log 1). -/
def State.withFetchWord (s : State) (nbits w : Nat) : State :=
  { s with task := none, inbox := fetchOfWord s.cfg nbits w :: s.inbox }

end Sys2Proof.Machine
end

