-- ==== Sys2Proof/Machine/Wire.lean ====
section
/-! DEFINITION. What the target sees of an event trace: the DR stays and the bits of the DR register (10_state.md R50, R51),
the flash addresses an SPI transaction can store to, and the reference target replayed along a trace (20_memory.md R84). -/

namespace Sys2Proof.Machine

/-- The bytes of each stay in SHIFT_DR that ended, in order, and of the stay in progress, if there is one, which the first
argument gives for the start. Each is one SPI transaction while the target is in passthrough (R51; log 28). A stay that is
open when the session closes is dropped: what becomes of it is outside the model (70_reset_and_hazards.md R372; DESIGN CHOICE,
log 27). -/
def drStays : Option (List Byte) → List Event → List (List Byte) × Option (List Byte)
  | cur, [] => ([], cur)
  | cur, .goTo dst :: es =>
    let r := drStays (if dst = .shiftDr then some [] else none) es
    (cur.toList ++ r.1, r.2)
  | cur, .shift .dr tx _ exit _ :: es =>
    if exit then
      let r := drStays none es
      ((cur.getD [] ++ tx) :: r.1, r.2)
    else drStays (some (cur.getD [] ++ tx)) es
  | cur, .shift .ir _ _ _ _ :: es => drStays cur es
  | cur, .settle _ :: es => drStays cur es
  | cur, .delay _ :: es => drStays cur es
  | cur, .opened _ :: es => drStays cur es
  | _, .closed :: es => drStays none es

/-- The bit stream the DR register sees in a trace (R50). -/
def drBits (es : List Event) : List Bool :=
  es.flatMap fun e =>
    match e with
    | .shift .dr tx _ _ _ => wireBits tx
    | _ => []

/-- The address lies in the block of the given size that contains x (20_memory.md R80). -/
def inBlock (size x a : Nat) : Bool := decide (roundDown x size ≤ a) && decide (a < roundDown x size + size)

/-- The flash address a page program writes its data byte i to, for the header's address x (20_memory.md R84). -/
def programmedAt (x i : Nat) : Nat := roundDown x 256 + (x + i) % 256

/-- Whether the SPI transaction whose shifted bytes are `raw` can store to a flash address: a chip erase to all, a block
erase to its block, a page program to the addresses of its data (R84). -/
def wireStores (c : Cfg) (raw : List Byte) (a : Nat) : Bool :=
  match revBuf raw with
  | [] => false
  | op :: args =>
    op == c.flashOps.ce ||
      match frameAddr args with
      | none => false
      | some x =>
        (op == c.flashOps.se4k && inBlock c.erase4K x a) || (op == c.flashOps.be32k && inBlock c.erase32K x a)
          || (op == c.flashOps.be64k && inBlock c.erase64K x a)
          || (op == c.flashOps.pp && (List.range (args.drop 3).length).any fun i => a == programmedAt x i)

/-- The reference target after the events of a trace, the TAP being in a given state at its start (R84). -/
def Target.replay (c : Cfg) : TapState → List Event → Target → Target
  | _, [], t => t
  | src, .goTo dst :: es, t => Target.replay c dst es (t.onGoTo c src dst)
  | src, .shift reg tx _ exit _ :: es, t =>
    Target.replay c (if exit then exitState c reg else src) es (t.onShift c reg tx exit)
  | src, .settle _ :: es, t => Target.replay c src es t
  | src, .delay _ :: es, t => Target.replay c src es t
  | src, .opened _ :: es, t => Target.replay c src es t
  | src, .closed :: es, t => Target.replay c src es t

end Sys2Proof.Machine
end

