-- ==== Sys2Proof/Safety.lean ====
section
/-! DEFINITION. The terms statements are made in: ready states and Ok answers, the events of exchanges and what a state looks
like after them, kinds of instructions, the refusals of operands, expansions and where they first wait, ghost fields and
hazards (60_exceptions.md R348), the flash of the reference target, and the invariant of the bridge. -/

namespace Sys2Proof

/-! ## Kinds of instructions -/

/-- The seven macros (30_encoding.md R116). -/
def Instr.isMacro : Instr → Bool
  | .mIdentify | .mProbe _ | .mLoadSram _ _ | .mProgram _ _ _ _ | .mRead _ _ _ | .mErase _ _ _ _ | .mVerify _ _ _ => true
  | _ => false

/-- `SESSION_OPEN`. -/
def Instr.isSessionOpen : Instr → Bool
  | .sessionOpen _ => true
  | _ => false

/-- `SESSION_CLOSE`. -/
def Instr.isSessionClose : Instr → Bool
  | .sessionClose => true
  | _ => false

/-- The commands a macro may run: those of 41_spi_bridge.md to 44_config_sequencer.md (45_orchestrator.md). -/
def Instr.isSubCommand : Instr → Bool
  | .spiXfer _ | .spiStream _ | .spiEnd | .readIdcode | .readStatus
  | .fWren | .fWrdi | .fRdsr1 | .fRdsr2 | .fRdsr3 | .fWrsr1 _ | .fWrsr2 _ | .fWrsr3 _
  | .fCe | .fSe4k _ | .fBe32k _ | .fBe64k _ | .fPp _ _ | .fRdid | .fRead _ | .fContRead _ | .fWait | .fUnprotect | .fReset
  | .cEnable | .cErase | .cDisable | .cResetCrc | .cBurst | .cBurstData _ | .cRefresh | .cPassthrough => true
  | _ => false

/-- The instructions that need the family: `READ_STATUS`, every `C_*` command but `C_BURST_DATA` (44_config_sequencer.md
R259), and the family's own TAP rows. -/
def Instr.needsFamily : Instr → Bool
  | .readStatus | .cEnable | .cErase | .cDisable | .cResetCrc | .cBurst | .cRefresh | .cPassthrough
  | .irStatus | .irEnable | .irErase | .irDisable | .irResetCrc | .irBurst | .irRefresh | .irPassthrough => true
  | _ => false

/-- The operand refusal of an instruction, the first that applies of BAD_OPTIONS, BAD_ADDRESS and BAD_LENGTH
(60_exceptions.md R339, steps 3 to 5): none for well-formed operands. -/
def Instr.operandRefusal (c : Cfg) : Instr → Option Machine.Reason
  | .sessionOpen sel => if sel.length ≤ c.maxXferBytes then none else some .badLength
  | .spiXfer data => if xferLenOk c data.length then none else some .badLength
  | .spiStream data => if xferLenOk c data.length then none else some .badLength
  | .fPp a data => if pageLenOk c a data.length then none else some .badLength
  | .fContRead n => if xferLenOk c n.toNat then none else some .badLength
  | .cBurstData data => if xferLenOk c data.length then none else some .badLength
  | .mProbe opts => if optsOk refreshOnly opts then none else some .badOptions
  | .mLoadSram _ opts => if optsOk refreshOnly opts then none else some .badOptions
  | .mProgram offset gran data opts =>
    if ¬(optsOk programOpts opts ∧ (granOf gran).isSome) then some .badOptions
    else if rangeOk offset data.length then none else some .badAddress
  | .mRead offset len opts =>
    if ¬optsOk refreshOnly opts then some .badOptions
    else if rangeOk offset len.toNat then none else some .badAddress
  | .mErase offset len gran opts =>
    if ¬(optsOk refreshOnly opts ∧ (granOf gran).isSome) then some .badOptions
    else if rangeOk offset len.toNat then none else some .badAddress
  | .mVerify offset data opts =>
    if ¬optsOk refreshOnly opts then some .badOptions
    else if rangeOk offset data.length then none else some .badAddress
  | .opPp a data => if pageLenOk c a data.length then none else some .badLength
  | .opRead _ count => if count ≤ c.maxXferBytes then none else some .badLength
  | _ => none

/-! ## Expansions -/

/-- The kind and the expansion of a macro under a configuration (45_orchestrator.md R283 to R294). -/
def Instr.expansion (c : Cfg) : Instr → Option (Machine.MacroKind × List Machine.PlanItem)
  | .mIdentify => some (.identify, Machine.planIdentify)
  | .mProbe opts => some (.probe, Machine.planProbe opts)
  | .mLoadSram data opts => some (.loadSram, Machine.planLoadSram c data opts)
  | .mProgram offset gran data opts =>
    some (.program, Machine.planProgram c offset ((granOf gran).getD .g4K) data opts)
  | .mRead offset len opts => some (.read, Machine.planRead c offset len.toNat opts)
  | .mErase offset len gran opts => some (.erase, Machine.planErase c offset len.toNat ((granOf gran).getD .g4K) opts)
  | .mVerify offset data opts => some (.verify, Machine.planVerify c offset data opts)
  | _ => none

end Sys2Proof

namespace Sys2Proof.Machine

/-- The sub-commands of an expansion in their order, the conditional `READ_STATUS` among them. -/
def subCommands : List PlanItem → List Instr
  | [] => []
  | .enter _ :: rest => subCommands rest
  | .sub i _ :: rest => i :: subCommands rest
  | .statusIfKnown :: rest => .readStatus :: subCommands rest

/-- The phases an expansion enters, in their order (45_orchestrator.md R280). -/
def phases : List PlanItem → List OrchState
  | [] => []
  | .enter o :: rest => o :: phases rest
  | .sub _ _ :: rest => phases rest
  | .statusIfKnown :: rest => phases rest

/-- An expansion cut at the first sub-command that waits: the items before it, the sub-command with what is kept of it,
and the rest. -/
def firstWait : List PlanItem → Option (List PlanItem × WaitCmd × Keep × List PlanItem)
  | [] => none
  | .sub .fWait keep :: rest => some ([], .wait, keep, rest)
  | .sub .fUnprotect keep :: rest => some ([], .unprotect, keep, rest)
  | x :: rest => (firstWait rest).map fun w => (x :: w.1, w.2)

/-- An expansion holds nothing but sub-commands and phases. -/
abbrev PlanOk (items : List PlanItem) : Prop := ∀ i ∈ subCommands items, i.isSubCommand = true

/-! ## Ready states and Ok answers -/

/-- A session is open and the sticky error is clear (10_state.md R31, R32). -/
abbrev State.Ready (s : State) : Prop := s.session = .opened ∧ s.err = false

/-- The next n primitives that make a transfer are answered Ok (10_state.md R49): by the reference target, or by the
oracle's next n answers. -/
abbrev State.OkFor (s : State) (n : Nat) : Prop :=
  s.target.isSome = true ∨ ∀ k < n, (s.answerAt k).ok = true

/-- The next n primitives that make a transfer are answered Ok whatever marks a macro raises: the reference target stays known
because no write is pending (45_orchestrator.md R298), or the oracle's next n answers are Ok. -/
abbrev State.OkThrough (s : State) (n : Nat) : Prop :=
  (s.target.isSome = true ∧ s.mustPoll = false) ∨ ∀ k < n, (s.answerAt k).ok = true

/-- The identified device's family, as a command that needs one computes it (44_config_sequencer.md R259): none where the
command is refused. -/
def State.knownFamily (s : State) : Option Family :=
  match s.dev with
  | none => none
  | some d =>
    if d.family = .unknown then (if s.cfg.unknownPolicy = .treatAsA then some .familyA else none) else some d.family

/-! ## Events and what they leave -/

/-- How many answers of the oracle a sequence of events takes (10_state.md R49). -/
def answersOf : List Event → Nat
  | [] => 0
  | .goTo _ :: es => answersOf es + 1
  | .shift _ _ _ _ _ :: es => answersOf es + 1
  | .settle _ :: es => answersOf es + 1
  | .opened _ :: es => answersOf es + 1
  | .delay _ :: es => answersOf es
  | .closed :: es => answersOf es

/-- The bytes the oracle's answer number k offers, n of them. -/
def State.rxOf (s : State) (k n : Nat) : List Byte :=
  (List.range n).map fun j => ((s.answerAt k).rx[j]?).getD (Config.driverByte (s.drawn + k) j)

/-- What a shift receives that follows the given events: the reference target's bytes, or the oracle's. -/
def State.rxAt (s : State) (evs : List Event) (reg : Reg) (tx : List Byte) : List Byte :=
  match s.target with
  | none => s.rxOf (answersOf evs) tx.length
  | some t => (t.replay s.cfg s.tap evs).received s.cfg reg tx (s.rxOf (answersOf evs) tx.length)

/-- The event of a move, none when the TAP is there already (10_state.md R44). -/
def goTos (src dst : TapState) : List Event := if src = dst then [] else [.goTo dst]

/-- Whether a streamed read or a burst survives a move (10_state.md R44). -/
def survives (src dst : TapState) : Bool := src == dst || !endsDrStay src dst

/-- The given events and then a shift of whole bytes (10_state.md R45). -/
def State.shifted (s : State) (evs : List Event) (reg : Reg) (tx : List Byte) (exit : Bool) : List Event :=
  evs ++ [.shift reg tx (8 * tx.length) exit (s.rxAt evs reg tx)]

/-- The given events, a move into SHIFT_DR, and an SPI frame, bit-reversed (41_spi_bridge.md R150, R151). -/
def State.framed (s : State) (evs : List Event) (src : TapState) (frame : List Byte) (exit : Bool) : List Event :=
  s.shifted (evs ++ goTos src .shiftDr) .dr (revBuf frame) exit

/-- What the flash answered to that frame, bit order corrected (41_spi_bridge.md R150). -/
def State.spiRx (s : State) (evs : List Event) (src : TapState) (frame : List Byte) : List Byte :=
  revBuf (s.rxAt (evs ++ goTos src .shiftDr) .dr (revBuf frame))

/-- The given events, a move into SHIFT_IR, and a TAP instruction (30_encoding.md R106, T_IR). -/
def State.loaded (s : State) (evs : List Event) (src : TapState) (code : Byte) : List Event :=
  s.shifted (evs ++ goTos src .shiftIr) .ir [code] true

/-- The state after some events: the trace holds them, the oracle's answers are taken, and the reference target has seen
them; the TAP is where the third argument says, and a streamed read and a burst are open as the last two say. All else is
as in `s`. -/
def State.saw (s : State) (evs : List Event) (tap : TapState) (rdOpen burstOpen : Bool) : State :=
  { s with
    trace := s.trace ++ evs
    script := s.script.drop (answersOf evs)
    drawn := s.drawn + answersOf evs
    target := s.target.map fun t => t.replay s.cfg s.tap evs
    tap := tap
    rdOpen := rdOpen
    burstOpen := burstOpen }

/-- The result OK with its data. -/
def okResult (d : ResultData) : Result := ⟨.ok, .none, d⟩

/-- The result REFUSED with its reason. -/
def refusedResult (r : Reason) : Result := ⟨.refused, r, .none⟩

/-- The result COMM_FAILURE with its reason. -/
def failedResult (r : Reason) : Result := ⟨.commFailure, r, .none⟩

/-! ## Runs -/

/-- Steps until no command is in progress, at most as many as given. -/
def untilIdle : Nat → Host.Outcome State Fault Refusal → Host.Outcome State Fault Refusal
  | 0, o => o
  | k + 1, .next s => if s.task.isSome then untilIdle k (step s) else .next s
  | _ + 1, o => o

/-! ## Hazards and ghost fields -/

/-- "A run with `s.hz = ∅` at its end made no request the source calls undefined" (60_exceptions.md R348): a statement about the
reference target has this as a premise, and as a conclusion. -/
abbrev State.HazardFree (s : State) : Prop := s.hz = {}

/-- The state with its ghost fields as given (10_state.md R30). -/
def State.withGhosts (s : State) (pt weIssued mustPoll : Bool) (hz : HazardSet) : State :=
  { s with pt := pt, weIssued := weIssued, mustPoll := mustPoll, hz := hz }

/-- The state without its ghost fields. -/
def State.eraseGhosts (s : State) : State := s.withGhosts false false false {}

/-- What an outcome is, its ghost fields left out. -/
def eraseOutcome : Host.Outcome State Fault Refusal → Host.Outcome State Fault Refusal
  | .next t => .next t.eraseGhosts
  | .fault f => .fault f
  | .refused r => .refused r

/-! ## The flash of the reference target -/

/-- The flash byte at an address, when a reference target is attached (20_memory.md R84). -/
def State.flashAt (s : State) (a : Nat) : Option Byte := s.target.map fun t => t.mem.read a

/-- The bytes of the DR stay in progress, as the reference target holds them. -/
def State.openStay (s : State) : Option (List Byte) :=
  if s.tap = .shiftDr then s.target.map fun t => t.frame else none

/-- A flash command to come raises no mark and finds the flash of a reference target ready: the run so far is hazard-free
(60_exceptions.md R348), passthrough is on and no write is pending (10_state.md R40); the target is in passthrough and not
busy, and no DR stay is in progress. -/
abbrev State.FlashReady (s : State) (t : Target) : Prop :=
  s.HazardFree ∧ s.pt = true ∧ s.mustPoll = false ∧
    s.target = some t ∧ t.mode = .passthrough ∧ t.busyPolls = 0 ∧ s.tap ≠ .shiftDr

/-- What the first `READ_IDCODE` from here on finds (42_identity_status.md R170, R172). -/
def State.freshDevice (s : State) : DeviceInfo :=
  lookupId s.cfg (BitVec.ofNat 32 (assemble s.cfg.wordAssembly
    (s.rxAt (s.loaded [] s.tap s.cfg.irIdcode ++ [Event.goTo .shiftDr]) .dr [0, 0, 0, 0])))

/-- The device a macro works with: the one identified before, or else the one it finds (45_orchestrator.md R282). -/
def State.identified (s : State) : DeviceInfo := s.dev.getD s.freshDevice

/-- A target a macro can work on: the run so far is hazard-free and no write is pending, so that the macro raises no mark
(60_exceptions.md R348, 45_orchestrator.md R298); the target is attached, of the family the macro works with (log 29), its
flash is not busy, and no DR stay is in progress. -/
abbrev State.OnTarget (s : State) (t : Target) : Prop :=
  s.HazardFree ∧ s.mustPoll = false ∧ s.target = some t ∧ t.busyPolls = 0 ∧ s.tap ≠ .shiftDr ∧ t.family ≠ .unknown ∧
    (s.dev.getD (lookupId s.cfg t.idcode)).family = t.family

/-- The target's flash is in a read from an address, some of its bytes read already (43_flash_commands.md R216, R217), in a
run that is hazard-free. -/
def State.ReadingAt (s : State) (a : Addr) (done : Nat) : Prop :=
  s.HazardFree ∧ s.pt = true ∧ s.mustPoll = false ∧ s.rdOpen = true ∧ s.tap = .shiftDr ∧
    ∃ t, s.target = some t ∧ t.mode = .passthrough ∧ t.busyPolls = 0 ∧
      t.frame = revBuf (s.cfg.flashOps.read :: be24 a ++ List.replicate done 0)

/-- The reset frame's first byte is no opcode of the table, as in `CfgRef` (30_encoding.md R113). -/
abbrev ResetIsNoOpcode (c : Cfg) : Prop := (c.flashResetFrame.head?.all fun b => (flashNameOf c b).isNone) = true

/-! ## The invariant -/

/-- A streamed read is open only in SHIFT_DR, a burst only in SHIFT_DR or CAPTURE_DR (10_state.md R38, R39). -/
abbrev State.StreamsInv (s : State) : Prop :=
  (s.rdOpen = true → s.tap = .shiftDr) ∧ (s.burstOpen = true → s.tap = .shiftDr ∨ s.tap = .captureDr)

/-- Outside a wait the debounce counter is 0, inside it has not reached `READY_DEBOUNCE` (10_state.md R52). -/
abbrev State.WaitInv (s : State) : Prop :=
  (s.task = none → s.rdyCount = 0) ∧ (s.task ≠ none → s.rdyCount < s.cfg.readyDebounce)

/-- "Between commands, `s.orch = Idle`", and so during a command that is no macro (45_orchestrator.md R280). -/
abbrev State.OrchInv (s : State) : Prop :=
  (∀ t, s.task = some t → t.outer = none → s.orch = .idle) ∧ (s.task = none → s.orch = .idle)

/-- What is left of a macro is an expansion. -/
abbrev State.TaskInv (s : State) : Prop := ∀ t e, s.task = some t → t.outer = some e → PlanOk e.rest

/-- A reference target is known only while the run is hazard-free (60_exceptions.md R334, R348). -/
abbrev State.HazardInv (s : State) : Prop := s.target.isSome = true → s.HazardFree

/-- The flash memory keeps its canonical form. -/
abbrev State.MemInv (s : State) : Prop := ∀ t, s.target = some t → t.mem.Wf

/-- The invariant of the bridge. -/
abbrev State.Inv (s : State) : Prop :=
  s.cfg.Wf ∧ s.StreamsInv ∧ s.WaitInv ∧ s.OrchInv ∧ s.TaskInv ∧ s.HazardInv ∧ s.MemInv

end Sys2Proof.Machine
end

