-- ==== Sys2Proof/Certificates/Slice0/Obligations.lean ====
section
/-! DEFINITION. The statements for the provers. Each docstring names the rules of spec/ it formalises; OBLIGATIONS.json lists
them. A clause that rests on the model's own choice says so and names the log entry. -/

open Sys2Proof Sys2Proof.Machine

/-! ## Encoding -/

/-- Decoding the encoding of an instruction gives the instruction back, with every operand at every value (30_encoding.md
R100 to R106). The family picks the TAP instruction values (R104). -/
def Obligations.DecodeOfEncode : Prop :=
  ∀ (c : Cfg) (f : Family) (i : Instr), c.WfCodes → decode c f (encode c f i) = .ok i

/-- An input that decodes is the encoding of what it decodes to: no bit of it is dropped, and no two inputs decode alike
(30_encoding.md R109, R110). That no input with a
surplus LEN or DATA decodes is the model's own choice (log 9), and so is a bare frame as an input (log 10). -/
def Obligations.EncodeOfDecode : Prop :=
  ∀ (c : Cfg) (f : Family) (x : Fetch) (i : Instr), decode c f x = .ok i → encode c f i = x

/-- A few words of the opcode table, written out from 30_encoding.md R100 to R104, decode to their instructions. -/
def Obligations.TableWordsDecode : Prop :=
  decodeTableWord 64 0x0000000000000001 = some (.sessionOpen []) ∧
  decodeTableWord 64 0x0000000000000012 = some .spiEnd ∧
  decodeTableWord 64 0x0000000000000021 = some .readStatus ∧
  decodeTableWord 64 0x0000012345000039 = some (.fSe4k 0x012345) ∧
  decodeTableWord 64 0x000000000000A535 = some (.fWrsr1 0xA5) ∧
  decodeTableWord 64 0x0000000000000057 = some .cPassthrough ∧
  decodeTableWord 64 0x0000020000020165 = some (.mErase 0x020000 0 2 0x01) ∧
  decodeTableWord 8 0x9F = some .opRdid ∧
  decodeTableWord 8 0x7A = some .irBurst

/-- A malformed header is refused with BAD_COMMAND, and nothing else changes (30_encoding.md R109). In a closed session
NO_SESSION goes before it (60_exceptions.md R339), but for the code of `SESSION_OPEN` (log 8). -/
def Obligations.MalformedHeaderIsRefused : Prop :=
  ∀ (s : State) (d : Descriptor) (rest : List Fetch), s.task = none → s.inbox = .host d :: rest →
    (s.session = .opened ∨ hCode d.header = 0x01) →
    (hostRow (hCode d.header) = none ∨ hReservedLow d.header ≠ 0 ∨ hReservedHigh d.header ≠ 0 ∨
      ∃ r, hostRow (hCode d.header) = some r ∧
        ((r.format.value = false ∧ hValue d.header ≠ 0) ∨ (r.format.gran = false ∧ hGran d.header ≠ 0) ∨
          (r.format.addr = false ∧ hAddr d.header ≠ 0))) →
    step s = .next ({ s with inbox := rest }.answer (refusedResult .badCommand))

/-! ## Steps -/

/-- A step runs the decoded instruction: with no command in progress, the head of the host port is taken and, when it
decodes, the step is that instruction's meaning (00_scope.md R10; log 1). -/
def Obligations.StepRunsTheDecodedInstruction : Prop :=
  ∀ (s : State) (x : Fetch) (rest : List Fetch) (i : Instr), s.task = none → s.inbox = x :: rest →
    decode s.cfg s.irFamily x = .ok i → step s = exec i { s with inbox := rest }

/-- "Every command runs to completion before the next command starts" (00_scope.md R10): a step takes the next input only
when no command is in progress, a command answers exactly once, at its end (R11), no event is taken back or reordered
(20_memory.md R86), and the parameters stay. -/
def Obligations.CommandsRunToCompletion : Prop :=
  ∀ s s' : State, step s = .next s' →
    s'.cfg = s.cfg ∧ s.trace <+: s'.trace ∧
    (s.task ≠ none → s'.inbox = s.inbox) ∧ (s.task = none → s'.inbox = s.inbox.tail) ∧
    (s'.task ≠ none → s'.results = s.results) ∧
    (s'.task = none → (s.task ≠ none ∨ s.inbox ≠ []) → ∃ r, s'.results = s.results ++ [r] ∧ s'.result = some r)

/-! ## Reset and sessions -/

/-- The state at power-up (10_state.md R56, 70_reset_and_hazards.md R370). `tap` is a draw and is not stated. That the
ports are empty is the model's (logs 1, 4, 18). -/
def Obligations.ResetState : Prop :=
  State.reset.session = .closed ∧ State.reset.err = false ∧ State.reset.dev = none ∧ State.reset.orch = .idle ∧
  State.reset.rdOpen = false ∧ State.reset.burstOpen = false ∧ State.reset.rdyCount = 0 ∧ State.reset.result = none ∧
  State.reset.pt = false ∧ State.reset.weIssued = false ∧ State.reset.mustPoll = false ∧ State.reset.hz = {} ∧
  State.reset.trace = [] ∧ State.reset.task = none

/-- What `SESSION_OPEN` does (70_reset_and_hazards.md R371): too long a selector is refused; else an open session is closed
first, and the oracle's answer opens the session with every field as after reset and the TAP where the answer says, or
fails and leaves it closed, the TAP anywhere (a draw, log 5). It tests neither the session nor the sticky error. That a
reference target is known no more where a stay or a burst was open is the model's choice (log 27). -/
def Obligations.SessionOpenResult : Prop :=
  ∀ (s : State) (sel : List Byte),
    (s.cfg.maxXferBytes < sel.length →
      exec (.sessionOpen sel) s = .next (s.answer (refusedResult .badLength))) ∧
    (sel.length ≤ s.cfg.maxXferBytes →
      ∃ tap, (s.nextAnswer.ok = true → tap = s.nextAnswer.tap) ∧
        exec (.sessionOpen sel) s = .next
          { s with
            session := if s.nextAnswer.ok then .opened else .closed
            err := false
            dev := none
            tap := tap
            orch := .idle
            rdOpen := false
            burstOpen := false
            rdyCount := 0
            result := some (if s.nextAnswer.ok then okResult .none else failedResult .sessionOpenFailed)
            pt := false
            weIssued := false
            mustPoll := false
            hz := {}
            trace := s.trace ++ (if s.session = .opened then [.closed] else []) ++ [.opened sel]
            results := s.results ++ [if s.nextAnswer.ok then okResult .none else failedResult .sessionOpenFailed]
            script := s.script.tail
            drawn := s.drawn + 1
            target :=
              if s.session = .opened ∧ (s.tap = .shiftDr ∨ s.burstOpen = true) then none else s.target })

/-- What `SESSION_CLOSE` does (70_reset_and_hazards.md R372): refused while closed; else the event `Close`, the session
closed, and no other field of R30 but the result; the sticky error does not matter. That a
reference target is known no more where a stay or a burst was open is the model's choice (log 27). -/
def Obligations.SessionCloseResult : Prop :=
  ∀ s : State,
    (s.session = .closed → exec .sessionClose s = .next (s.answer (refusedResult .noSession))) ∧
    (s.session = .opened → exec .sessionClose s =
      .next { s with
        session := .closed
        trace := s.trace ++ [.closed]
        result := some (okResult .none)
        results := s.results ++ [okResult .none]
        target := if s.tap = .shiftDr ∨ s.burstOpen = true then none else s.target })

/-- The session is Open between a successful `SESSION_OPEN` and the next `SESSION_CLOSE`; while it is Closed, every other
command is refused with NO_SESSION and nothing else changes (10_state.md R32). A malformed header is refused alike (log 8).
The first clause takes in the bare SPI and TAP rows, which are the model's inputs (log 10). The fast-read row is no command (43_flash_commands.md R222). -/
def Obligations.SessionRule : Prop :=
  (∀ (i : Instr) (s : State), s.session = .closed → i.isSessionOpen = false → i ≠ .opFastRead →
    exec i s = .next (s.answer (refusedResult .noSession))) ∧
  (∀ (s : State) (d : Descriptor) (rest : List Fetch), s.session = .closed → s.task = none →
    s.inbox = .host d :: rest → hCode d.header ≠ 0x01 →
    step s = .next ({ s with inbox := rest }.answer (refusedResult .noSession))) ∧
  (∀ (i : Instr) (s s' : State), exec i s = .next s' →
    (s'.session = .opened ↔
      if i.isSessionOpen then
        s'.result = some (okResult .none) ∨ (s.session = .opened ∧ s'.result = some (refusedResult .badLength))
      else s.session = .opened ∧ i.isSessionClose = false)) ∧
  ∀ (t : Task) (s s' : State), resume t s = .next s' → s'.session = s.session

/-! ## Faults -/

/-- The sticky error (10_state.md R31, 60_exceptions.md R333): it becomes set only where a command ends with
COMM_FAILURE(TRANSPORT), which always leaves it set; and only `SESSION_OPEN` clears it. -/
def Obligations.StickyErrorRule : Prop :=
  (∀ (i : Instr) (s s' : State), exec i s = .next s' →
    (s.err = false → s'.err = true → s'.result = some (failedResult .transport)) ∧
    (s'.results = s.results ++ [failedResult .transport] → s'.err = true) ∧
    (s.err = true → s'.err = false → i.isSessionOpen = true)) ∧
  ∀ (t : Task) (s s' : State), resume t s = .next s' →
    (s.err = false → s'.err = true → s'.result = some (failedResult .transport)) ∧
    (s'.results = s.results ++ [failedResult .transport] → s'.err = true) ∧
    (s.err = true → s'.err = true)

/-- The sticky short-circuit (60_exceptions.md R332): while the sticky error is set, every primitive that makes a transfer
stops with COMM_FAILURE(STICKY) before anything else, `TapState` and `Delay` do not, and every command but `SESSION_OPEN` and
`SESSION_CLOSE` emits no event and takes no answer. One whose operands are in order (60_exceptions.md R339) ends with
COMM_FAILURE(STICKY); a macro finds it in its first sub-command, and passes through Identify (45_orchestrator.md R280, R281).
The instructions take in the bare SPI and TAP rows, which are the model's inputs (log 10). -/
def Obligations.StickyShortCircuit : Prop :=
  (∀ s : State, s.err = true →
    (∀ dst, tapGoTo dst s = .error (.raise .commFailure .sticky) s) ∧
    (∀ tx n exit, tapShift tx n exit s = .error (.raise .commFailure .sticky) s) ∧
    (∀ cycles, tapSettle cycles s = .error (.raise .commFailure .sticky) s) ∧
    tapState s = .ok s.tap s ∧ ∀ time, delay time s = .ok () { s with trace := s.trace ++ [.delay time] }) ∧
  (∀ (i : Instr) (s s' : State), s.err = true → i.isSessionOpen = false → i.isSessionClose = false → exec i s = .next s' →
    s'.trace = s.trace ∧ s'.script = s.script ∧ s'.drawn = s.drawn) ∧
  ∀ (i : Instr) (s : State), s.session = .opened → s.err = true → i.isSessionOpen = false → i.isSessionClose = false →
    i ≠ .opFastRead → i.WellFormed s.cfg →
    exec i s = .next
      (if i.isMacro then
        { s with
          orch := OrchState.idle
          orchLog := s.orchLog ++ [OrchState.identify, OrchState.idle] }.answer (failedResult .sticky)
      else s.answer (failedResult .sticky))

/-- A primitive whose answer is Fail (60_exceptions.md R333, 10_state.md R44 to R46): its event stays, the sticky error is
set, the command ends with COMM_FAILURE(TRANSPORT), and the TAP state and all else stay. -/
def Obligations.FailedPrimitive : Prop :=
  ∀ s : State, s.err = false → s.target = none → s.nextAnswer.ok = false →
    (∀ dst, s.tap ≠ dst → tapGoTo dst s = .error (.raise .commFailure .transport)
      { s with err := true, trace := s.trace ++ [.goTo dst], script := s.script.tail, drawn := s.drawn + 1 }) ∧
    (∀ reg tx exit, shiftReg s.tap = some reg → tapShift tx (8 * tx.length) exit s =
      .error (.raise .commFailure .transport)
        { s with
          err := true
          trace := s.trace ++ [.shift reg tx (8 * tx.length) exit (s.rxOf 0 tx.length)]
          script := s.script.tail
          drawn := s.drawn + 1 }) ∧
    ∀ cycles, s.tap = .runTestIdle → tapSettle cycles s = .error (.raise .commFailure .transport)
      { s with err := true, trace := s.trace ++ [.settle cycles], script := s.script.tail, drawn := s.drawn + 1 }

/-- Operands out of order are refused before anything happens, with the first reason of 60_exceptions.md R339 that applies
(steps 3 to 5), and operands in order are not (41_spi_bridge.md R152, 20_memory.md R79, 43_flash_commands.md R217,
44_config_sequencer.md R257, 45_orchestrator.md R281, 70_reset_and_hazards.md R371). For the SPI rows it is the model's
(log 10); that GRAN 3 is refused under BULK and NOERASE too is log 23 (30_encoding.md R107), and that `F_PP` is checked by R79
alone is log 19. -/
def Obligations.OperandRefusals : Prop :=
  ∀ (i : Instr) (s : State),
    (i.operandRefusal s.cfg = none ↔ i.WellFormed s.cfg) ∧
    ∀ r, (s.session = .opened ∨ i.isSessionOpen = true) → i.operandRefusal s.cfg = some r →
      exec i s = .next (s.answer (refusedResult r))

/-- The state refusals (60_exceptions.md R339, step 7): a command that needs a family before one is identified, or with
family Unknown under the policy `Refuse` (44_config_sequencer.md R259); `F_CONT_READ` without an open read
(43_flash_commands.md R217); `C_BURST_DATA` without an open burst (44_config_sequencer.md R257). -/
def Obligations.StateRefusals : Prop :=
  ∀ s : State, s.Ready →
    (∀ i : Instr, i.needsFamily = true → s.dev = none → exec i s = .next (s.answer (refusedResult .notIdentified))) ∧
    (∀ (i : Instr) (d : DeviceInfo), i.needsFamily = true → s.dev = some d → d.family = .unknown →
      s.cfg.unknownPolicy = .refuse → exec i s = .next (s.answer (refusedResult .unknownFamily))) ∧
    (∀ n, xferLenOk s.cfg n.toNat = true → s.rdOpen = false →
      exec (.fContRead n) s = .next (s.answer (refusedResult .noOpenRead))) ∧
    ∀ data, xferLenOk s.cfg data.length = true → s.burstOpen = false →
      exec (.cBurstData data) s = .next (s.answer (refusedResult .noOpenBurst))

/-- "A refusal changes nothing except `s.result`. It emits no event, adds no hazard mark and does not set `s.err`."
(60_exceptions.md R338), for every instruction but the macros, whose sub-commands may be refused after events (R297). -/
def Obligations.RefusalChangesOnlyTheResult : Prop :=
  ∀ (i : Instr) (s s' : State) (r : Reason), i.isMacro = false → exec i s = .next s' →
    s'.results = s.results ++ [refusedResult r] → s' = s.answer (refusedResult r)

/-! ## Ghost fields -/

/-- "No rule removes a mark, except `SESSION_OPEN`, which sets `s.hz <- ∅`" (10_state.md R40). And from a mark on no answer and
no state of a reference target is fixed (60_exceptions.md R334): where one is known at the end of a step, the step raised no
mark. That it is taken off is the form the model gives this (log 14). -/
def Obligations.HazardMarksStay : Prop :=
  (∀ (i : Instr) (s s' : State), exec i s = .next s' → i.isSessionOpen = false →
    (∀ m, s.hz.has m = true → s'.hz.has m = true) ∧ (s'.target.isSome = true → s'.hz = s.hz ∧ s.target.isSome = true)) ∧
  (∀ (t : Task) (s s' : State), resume t s = .next s' →
    (∀ m, s.hz.has m = true → s'.hz.has m = true) ∧ (s'.target.isSome = true → s'.hz = s.hz ∧ s.target.isSome = true)) ∧
  ∀ (sel : List Byte) (s s' : State), exec (.sessionOpen sel) s = .next s' →
    (sel.length ≤ s.cfg.maxXferBytes → s'.hz = {}) ∧ (s'.target.isSome = true → s.target.isSome = true)

/-- The marks of a flash command's prologue and of a status-register write frame (43_flash_commands.md R200, R223,
41_spi_bridge.md R158), each under exactly its condition (10_state.md R40); and where one is raised, and only there, a reference
target is known no more (60_exceptions.md R334; its form is log 14). -/
def Obligations.HazardMarkConditions : Prop :=
  ∀ (s : State) (k : FlashKind),
    ((s.flashHazards k).hz.has .noPassthrough = true ↔ s.hz.has .noPassthrough = true ∨ s.pt = false) ∧
    ((s.flashHazards k).hz.has .busyNotPolled = true ↔
      s.hz.has .busyNotPolled = true ∨ (s.mustPoll = true ∧ k ≠ .poll)) ∧
    ((s.flashHazards k).hz.has .frameMerged = true ↔
      s.hz.has .frameMerged = true ∨ (k ≠ .contRead ∧ s.pt = true ∧ s.tap = .shiftDr)) ∧
    ((s.flashHazards k).hz.has .noWriteEnable = true ↔ s.hz.has .noWriteEnable = true) ∧
    (s.writeEnableHazard.hz.has .noWriteEnable = true ↔ s.hz.has .noWriteEnable = true ∨ s.weIssued = false) ∧
    (∀ m, m ≠ .noWriteEnable → s.writeEnableHazard.hz.has m = s.hz.has m) ∧
    (s.flashHazards k).target =
      (if s.pt = false ∨ (s.mustPoll = true ∧ k ≠ .poll) ∨ (k ≠ .contRead ∧ s.pt = true ∧ s.tap = .shiftDr) then none
        else s.target) ∧
    s.writeEnableHazard.target = (if s.weIssued = false then none else s.target) ∧
    (s.flashHazards k).tap = s.tap ∧ (s.flashHazards k).err = s.err ∧ (s.flashHazards k).trace = s.trace

/-- "No rule lets a ghost field change what the bridge sends" (10_state.md R30), nor anything else that is no ghost field
(60_exceptions.md R334): from two states that differ in ghost fields alone, every instruction, every step and every command
in progress comes to the same, ghost fields apart, whatever the oracle answers. A reference target answers until the first mark
(R334, log 14): with one attached, the two come to the same where it is known at the end of both. -/
def Obligations.GhostsChangeNothingElse : Prop :=
  ∀ (s : State) (p w m : Bool) (h : HazardSet),
    let ghosts := s.withGhosts p w m h
    (s.target = none →
      (∀ i : Instr, eraseOutcome (exec i ghosts) = eraseOutcome (exec i s)) ∧
      (∀ t : Task, eraseOutcome (resume t ghosts) = eraseOutcome (resume t s)) ∧
      eraseOutcome (step ghosts) = eraseOutcome (step s)) ∧
    ∀ u v : State, u.target.isSome = true → v.target.isSome = true →
      (∀ i : Instr, exec i ghosts = .next u → exec i s = .next v → u.eraseGhosts = v.eraseGhosts) ∧
      (∀ t : Task, resume t ghosts = .next u → resume t s = .next v → u.eraseGhosts = v.eraseGhosts) ∧
      (step ghosts = .next u → step s = .next v → u.eraseGhosts = v.eraseGhosts)

/-! ## The device -/

/-- "`s.dev` is written once per session" (42_identity_status.md R173): once present it stays until `SESSION_OPEN`; only
`READ_IDCODE`, or a macro, which runs one, makes it present; and a `READ_IDCODE` that completes writes its fresh device if
there was none, and shifts, assembles and returns its fresh one all the same. -/
def Obligations.DeviceIsWrittenOnce : Prop :=
  (∀ (i : Instr) (s s' : State) (d : DeviceInfo), exec i s = .next s' → i.isSessionOpen = false → s.dev = some d →
    s'.dev = some d) ∧
  (∀ (i : Instr) (s s' : State), exec i s = .next s' → i ≠ .readIdcode → i.isMacro = false → s.dev = none →
    s'.dev = none) ∧
  (∀ s : State, s.Ready → s.cfg.Wf → s.OkFor 4 → ∃ s', exec .readIdcode s = .next s' ∧
    s'.result = some (okResult (.device s.freshDevice)) ∧ s'.dev = some (s.dev.getD s.freshDevice) ∧
    s'.trace = s.trace ++ s.shifted (s.loaded [] s.tap s.cfg.irIdcode ++ [Event.goTo .shiftDr]) .dr [0, 0, 0, 0] true) ∧
  (∀ (s s' : State) (d : DeviceInfo), exec .readIdcode s = .next s' → s'.result = some (okResult (.device d)) →
    s'.dev = some (s.dev.getD d)) ∧
  ∀ (t : Task) (s s' : State) (d : DeviceInfo), resume t s = .next s' → s.dev = some d → s'.dev = some d

/-! ## The invariant -/

/-- The state at reset has the invariant. -/
def Obligations.ResetHasInvariant : Prop := State.reset.Inv

/-- Every step keeps the invariant: the parameters are well-formed, a streamed read is open only in SHIFT_DR and a burst only
in SHIFT_DR or CAPTURE_DR (10_state.md R38, R39), the debounce counter is 0 outside a wait (R52), the orchestrator is Idle
between commands (45_orchestrator.md R280), what is left of a macro is an expansion, a reference target is known only while the run
is hazard-free (60_exceptions.md R334; its form is log 14), and the flash memory keeps its form. -/
def Obligations.StepKeepsInvariant : Prop := ∀ s s' : State, s.Inv → step s = .next s' → s'.Inv

/-- "So no TAP primitive is ever called in a TAP state its precondition forbids" (10_state.md R54): no step from a state of
the invariant ends in a fault. -/
def Obligations.StepNeverFaults : Prop := ∀ (s : State) (f : Fault), s.Inv → step s ≠ .fault f

/-! ## Bits, bytes and words -/

/-- Bit reversal reflects the eight bits of a byte, is its own inverse and a bijection (40_bit_order.md R140, R141); and
`revBuf(s)` reverses every byte and keeps their order, as R142 has it, whose inference the spec marks as its own. -/
def Obligations.BitReversal : Prop :=
  (∀ (b : Byte) (i : Nat), i < 8 → (rev8 b).getLsbD i = b.getLsbD (7 - i)) ∧
  (∀ b : Byte, rev8 (rev8 b) = b) ∧ (∀ y : Byte, ∃ x, rev8 x = y ∧ ∀ x', rev8 x' = y → x' = x) ∧
  ∀ s : List Byte, (revBuf s).length = s.length ∧ (∀ i : Nat, (revBuf s)[i]? = s[i]?.map rev8) ∧ revBuf (revBuf s) = s

/-- "Every byte of an SPI frame reaches the flash most significant bit first" (20_memory.md R74): eight by eight, the bits of
the shift of a frame (10_state.md R50) are what the flash reads as the frame's bytes (R51), and what the flash sends is read
back as the bytes it sent. An address goes out as its three bytes, most significant first (R73). -/
def Obligations.SpiBytesGoMostSignificantBitFirst : Prop :=
  (∀ (frame : List Byte) (j : Nat) (b : Byte), frame[j]? = some b →
    flashByte (((wireBits (revBuf frame)).drop (8 * j)).take 8) = b) ∧
  (∀ (raw : List Byte) (j : Nat) (b : Byte), (revBuf raw)[j]? = some b →
    flashByte (((wireBits raw).drop (8 * j)).take 8) = b) ∧
  ∀ a : Addr, be24 a = [a.extractLsb' 16 8, a.extractLsb' 8 8, a.extractLsb' 0 8] ∧
    ((be24 a).map (·.toNat)).foldl (fun v b => v * 256 + b) 0 = a.toNat

/-- The assembly of a word from its received bytes (20_memory.md R76), first byte most or least significant; the word fits
its width, and a register that lays its word out in that order, as the reference target does (R84, log 14), reads back as the
word. The default is the most significant byte first. -/
def Obligations.WordAssemblyOrder : Prop :=
  ∀ rx : List Byte,
    assemble .msbByteFirst rx =
      ((List.range rx.length).map fun i => (rx.getD i 0).toNat * 2 ^ (8 * rx.length - 8 * (i + 1))).sum ∧
    assemble .lsbByteFirst rx = ((List.range rx.length).map fun i => (rx.getD i 0).toNat * 2 ^ (8 * i)).sum ∧
    Cfg.ref.wordAssembly = .msbByteFirst ∧ (∀ o, assemble o rx < 2 ^ (8 * rx.length)) ∧
    ∀ (o : WordAssembly) (v n : Nat), assemble o (wordBytes o v n) = v % 2 ^ (8 * n)

/-- The status decoder (42_identity_status.md R176, R180): one named field for each entry of the table, from the bits the
entry names; a value without a meaning reads "reserved/undefined". That the fields are a list in the table's order, where R176
gives one field for each label, is the model's choice (log 26). -/
def Obligations.StatusDecoding : Prop :=
  ∀ (c : Cfg) (f : Family) (v : Nat),
    (decodeStatus c f v).map (·.1) = (c.fam f).statusDecode.map (·.label) ∧
    ∀ (k off w : Nat) (label : String),
      ((c.fam f).statusDecode[k]? = some ⟨off, w, label, .flag⟩ → w = 1 →
        (decodeStatus c f v)[k]? = some (label, .flag (v.testBit off))) ∧
      ∀ table, (c.fam f).statusDecode[k]? = some ⟨off, w, label, .meanings table⟩ →
        ∃ name, (decodeStatus c f v)[k]? = some (label, .name name) ∧
          ((∀ m ∈ table, m.1 ≠ v / 2 ^ off % 2 ^ w) → name = "reserved/undefined") ∧
          ∀ m, table.find? (fun e => e.1 = v / 2 ^ off % 2 ^ w) = some m → name = m.2

/-! ## How the macros cut a range -/

/-- The erase region and its blocks (45_orchestrator.md R287, R288). -/
def Obligations.EraseRegion : Prop :=
  ∀ offset length b : Nat, 0 < b → b ∣ 2 ^ 24 → offset < 2 ^ 24 → offset + length ≤ 2 ^ 24 →
    let lo := eraseBegin offset b
    let hi := eraseEnd offset length b
    lo ≤ offset ∧ offset + length ≤ hi ∧ b ∣ lo ∧ b ∣ hi ∧ hi ≤ 2 ^ 24 ∧
    (∀ lo' hi', lo' ≤ offset → offset + length ≤ hi' → b ∣ lo' → b ∣ hi' → hi - lo ≤ hi' - lo') ∧
    (length = 0 → hi - lo = if b ∣ offset then 0 else b) ∧
    (eraseBlocks offset length b).length = (hi - lo) / b ∧
    (eraseBlocks offset length b).Pairwise (· < ·) ∧
    ∀ x, (∃ a ∈ eraseBlocks offset length b, b ∣ a ∧ a ≤ x ∧ x < a + b) ↔ lo ≤ x ∧ x < hi

/-- The pieces of the program loop (45_orchestrator.md R290): they are the image, cut; each starts where the one before it
ends; none is refused by 20_memory.md R79; every piece but the first starts on a page boundary. -/
def Obligations.ProgramPieces : Prop :=
  ∀ (c : Cfg) (offset : Addr) (data : List Byte), 0 < c.pageSize → rangeOk offset data.length = true →
    ((pagePieces c offset data).map (·.2)).flatten = data ∧
    (∀ (k a : Nat) (d : List Byte), (pagePieces c offset data)[k]? = some (a, d) →
      a = offset.toNat + ((((pagePieces c offset data).take k).map (·.2)).flatten).length ∧
      a < 2 ^ 24 ∧ pageLenOk c (BitVec.ofNat 24 a) d.length = true ∧ (k ≠ 0 → c.pageSize ∣ a))

/-- The chunks of an SRAM image (45_orchestrator.md R285), of the verify loop (R291) and of a read (R292): together they are
the whole, none is empty, and all but the last have the chunk size. -/
def Obligations.Chunks : Prop :=
  ∀ c : Cfg, 0 < c.sramChunk → 0 < c.readChunk →
    (∀ data : List Byte, (sramChunks c data).flatten = data ∧
      (∀ d ∈ (sramChunks c data).dropLast, d.length = c.sramChunk) ∧
      ∀ d ∈ sramChunks c data, 1 ≤ d.length ∧ d.length ≤ c.sramChunk) ∧
    (∀ (offset : Addr) (data : List Byte),
      ((verifyChunks c offset data).map (·.2)).flatten = data ∧
      (∀ (k a : Nat) (d : List Byte), (verifyChunks c offset data)[k]? = some (a, d) →
        a = offset.toNat + k * c.readChunk ∧ 1 ≤ d.length ∧ d.length ≤ c.readChunk) ∧
      ∀ p ∈ (verifyChunks c offset data).dropLast, p.2.length = c.readChunk) ∧
    ∀ len : Nat, (readSizes c len).sum = len ∧ (∀ n ∈ (readSizes c len).dropLast, n = c.readChunk) ∧
      ∀ n ∈ readSizes c len, 1 ≤ n ∧ n ≤ c.readChunk

/-- The sub-commands of the macros' fixed parts and the phases of every macro (45_orchestrator.md R280, R282 to R286, R292 to
R295). -/
def Obligations.MacroExpansions : Prop :=
  ∀ (c : Cfg) (offset : Addr) (len : Nat) (g : Gran) (data : List Byte) (opts : Byte),
    let entry := [Instr.cEnable, .cErase, .cDisable, .cPassthrough, .fReset, .fRdid]
    let refresh := if optRefresh opts then [Instr.cRefresh] else []
    let path := fun o : OrchState => [OrchState.identify, o] ++ if optRefresh opts then [OrchState.refresh] else []
    let erase := (eraseBlocks offset.toNat len (c.eraseSize g)).flatMap fun a =>
      [eraseCmd g (BitVec.ofNat 24 a), .fWait]
    subCommands planIdentify = [.readIdcode, .readStatus] ∧
    subCommands (planProbe opts) = [.readIdcode, .readStatus] ++ entry ++ [.fRdsr1] ++ refresh ∧
    subCommands (planLoadSram c data opts) =
      [.readIdcode, .readStatus, .cEnable, .cErase, .cResetCrc, .cBurst] ++ (sramChunks c data).map .cBurstData
        ++ [.cDisable] ++ refresh ∧
    subCommands (planErase c offset len g opts) = [.readIdcode, .readStatus] ++ entry ++ erase ++ refresh ∧
    subCommands (planProgram c offset g data opts) =
      [.readIdcode, .readStatus] ++ entry ++ (if optUnprotect opts then [.fWren, .fUnprotect] else [])
        ++ (if optBulk opts then [.fCe, .fWait]
            else if optNoErase opts then []
            else (eraseBlocks offset.toNat data.length (c.eraseSize g)).flatMap fun a =>
              [eraseCmd g (BitVec.ofNat 24 a), .fWait])
        ++ ((pagePieces c offset data).flatMap fun p => [.fPp (BitVec.ofNat 24 p.1) p.2, .fWait])
        ++ (if optNoVerify opts then []
            else (verifyChunks c offset data).flatMap fun p =>
              [.fRead (BitVec.ofNat 24 p.1), .fContRead (BitVec.ofNat 32 p.2.length), .spiEnd])
        ++ refresh ∧
    subCommands (planRead c offset len opts) =
      [.readIdcode, .readStatus] ++ entry
        ++ (if len = 0 then []
            else .fRead offset :: (readSizes c len).map (fun n => .fContRead (BitVec.ofNat 32 n)) ++ [.spiEnd])
        ++ refresh ∧
    subCommands (planVerify c offset data opts) =
      [.readIdcode, .readStatus] ++ entry
        ++ ((verifyChunks c offset data).flatMap fun p =>
              [.fRead (BitVec.ofNat 24 p.1), .fContRead (BitVec.ofNat 32 p.2.length), .spiEnd])
        ++ refresh ∧
    phases planIdentify = [.identify] ∧ phases (planProbe opts) = path .probe ∧
    phases (planLoadSram c data opts) = path .loadSram ∧ phases (planProgram c offset g data opts) = path .programFlash ∧
    phases (planRead c offset len opts) = path .readFlash ∧ phases (planErase c offset len g opts) = path .eraseFlash ∧
    phases (planVerify c offset data opts) = path .verifyFlash

/-! ## The SPI bridge -/

/-- The commands of the SPI bridge (41_spi_bridge.md R150, R151, R155 to R157). `SPI_XFER` is one full exchange of the frame,
the answer its bytes; the TAP leaves SHIFT_DR and no streamed read or burst is open. `SPI_STREAM` is the same exchange held:
the TAP stays in SHIFT_DR, and a streamed read and a burst stay as they are. `SPI_END` is a move to RUN_TEST_IDLE, none when
the TAP is there. No other field changes. -/
def Obligations.SpiCommands : Prop :=
  ∀ s : State, s.Ready → s.OkFor 2 →
    (∀ data : List Byte, xferLenOk s.cfg data.length = true →
      exec (.spiXfer data) s = .next ((s.saw (s.framed [] s.tap data true) (exitState s.cfg .dr) false false).answer
        (okResult (.bytes (s.spiRx [] s.tap data)))) ∧
      exec (.spiStream data) s = .next ((s.saw (s.framed [] s.tap data false) .shiftDr s.rdOpen s.burstOpen).answer
        (okResult (.bytes (s.spiRx [] s.tap data))))) ∧
    exec .spiEnd s = .next ((s.saw (goTos s.tap .runTestIdle) .runTestIdle (s.rdOpen && survives s.tap .runTestIdle)
      (s.burstOpen && survives s.tap .runTestIdle)).answer (okResult .none))

/-! ## Identity and status -/

/-- `READ_IDCODE` (42_identity_status.md R170 to R173): the IDCODE instruction, a 32-bit read, the word assembled and looked
up; the result is the fresh device, and `s.dev` is written if it was none. -/
def Obligations.ReadIdcodeResult : Prop :=
  ∀ s : State, s.Ready → s.cfg.Wf → s.OkFor 4 →
    let load := s.loaded [] s.tap s.cfg.irIdcode
    let reading := load ++ [Event.goTo .shiftDr]
    let info := lookupId s.cfg (BitVec.ofNat 32 (assemble s.cfg.wordAssembly (s.rxAt reading .dr [0, 0, 0, 0])))
    exec .readIdcode s = .next
      ({ s.saw (s.shifted reading .dr [0, 0, 0, 0] true) (exitState s.cfg .dr) false false with
          pt := false
          dev := if s.dev = none then some info else s.dev }.answer (okResult (.device info)))

/-- `lookupId` (42_identity_status.md R172): the first entry of table A, then of table B, whose 32 bits are equal; no match is
family Unknown with the id kept. -/
def Obligations.IdcodeLookup : Prop :=
  ∀ (c : Cfg) (id : BitVec 32),
    (lookupId c id).idcode = id ∧
    (∀ name, c.famA.idTable.find? (fun e => e.1 = id) = some (id, name) → lookupId c id = ⟨.familyA, id, name⟩) ∧
    (∀ name, (∀ e ∈ c.famA.idTable, e.1 ≠ id) → c.famB.idTable.find? (fun e => e.1 = id) = some (id, name) →
      lookupId c id = ⟨.familyB, id, name⟩) ∧
    ((∀ e ∈ c.famA.idTable, e.1 ≠ id) → (∀ e ∈ c.famB.idTable, e.1 ≠ id) → lookupId c id = ⟨.unknown, id, ""⟩)

/-- `READ_STATUS` (42_identity_status.md R174, R181, R182; 44_config_sequencer.md R259): the family's status instruction, a
read of the register's width, and the raw word with its decoded fields. -/
def Obligations.ReadStatusResult : Prop :=
  ∀ (s : State) (f : Family), s.Ready → s.cfg.Wf → s.knownFamily = some f → s.OkFor 4 →
    let zeros := List.replicate ((s.cfg.fam f).statusBits / 8) (0 : Byte)
    let reading := s.loaded [] s.tap (s.cfg.fam f).ir.status ++ [Event.goTo .shiftDr]
    let v := assemble s.cfg.wordAssembly (s.rxAt reading .dr zeros)
    exec .readStatus s = .next
      ({ s.saw (s.shifted reading .dr zeros true) (exitState s.cfg .dr) false false with pt := false }.answer
        (okResult (.status ⟨(s.cfg.fam f).statusBits, v, decodeStatus s.cfg f v⟩)))

/-- `M_IDENTIFY` (45_orchestrator.md R282, R283; 42_identity_status.md R173): the IDCODE is read, the device becomes the
session's if it has none, and the status register is read with the session's family; with family Unknown, under the policy
`Refuse`, it is not, which is a success (R283; that either device's being Unknown counts is log 17). The orchestrator passes
through Identify and Done (R280). -/
def Obligations.IdentifyResult : Prop :=
  ∀ s : State, s.Ready → s.cfg.Wf → s.OkFor 8 →
    let idcode := s.shifted (s.loaded [] s.tap s.cfg.irIdcode ++ [Event.goTo .shiftDr]) .dr [0, 0, 0, 0] true
    let f := if s.identified.family = .unknown then Family.familyA else s.identified.family
    let zeros := List.replicate ((s.cfg.fam f).statusBits / 8) (0 : Byte)
    let reading := s.loaded idcode (exitState s.cfg .dr) (s.cfg.fam f).ir.status ++ [Event.goTo .shiftDr]
    let v := assemble s.cfg.wordAssembly (s.rxAt reading .dr zeros)
    let after := fun evs (status : Option StatusReport) =>
      { s.saw evs (exitState s.cfg .dr) false false with
        pt := false
        dev := some s.identified
        orch := OrchState.idle
        orchLog := s.orchLog ++ [OrchState.identify, .done, .idle] }.answer
        (okResult (.identity (some s.identified) status))
    exec .mIdentify s = .next
      (if s.cfg.unknownPolicy = .refuse ∧ (s.freshDevice.family = .unknown ∨ s.identified.family = .unknown) then
        after idcode none
       else after (s.shifted reading .dr zeros true) (some ⟨(s.cfg.fam f).statusBits, v, decodeStatus s.cfg f v⟩))

/-! ## The flash commands -/

/-- The commands of one frame without an answer of interest: `F_WREN` and `F_WRDI` with the write-enable ghost
(43_flash_commands.md R201, R202, R223), and `F_RESET` with none (R221). Each marks what its prologue marks (R200) before its
first event. -/
def Obligations.SingleFrameCommands : Prop :=
  ∀ s : State, s.Ready →
    let m := s.flashHazards .plain
    m.OkFor 2 →
      let sent := fun (frame : List Byte) => m.saw (m.framed [] m.tap frame true) (exitState m.cfg .dr) false false
      exec .fWren s = .next ({ sent [m.cfg.flashOps.wren] with weIssued := true }.answer (okResult .none)) ∧
      exec .fWrdi s = .next ({ sent [m.cfg.flashOps.wrdi] with weIssued := false }.answer (okResult .none)) ∧
      (m.cfg.flashResetFrame ≠ [] → exec .fReset s = .next ((sent m.cfg.flashResetFrame).answer (okResult .none)))

/-- The commands that read a register or the ID: the status registers (43_flash_commands.md R203 to R205), whose result is
response byte 1, and the JEDEC ID (R215), whose result is response bytes 1 on. `F_RDSR1` is no hazard while a write is
pending (R200). Each marks what its prologue marks before its first event, and no other ghost field changes (R223). -/
def Obligations.FlashRegisterReads : Prop :=
  ∀ s : State, s.Ready →
    let sent := fun (m : State) (frame : List Byte) =>
      m.saw (m.framed [] m.tap frame true) (exitState m.cfg .dr) false false
    let byte1 := fun (m : State) (frame : List Byte) => okResult (.byte ((m.spiRx [] m.tap frame).getD 1 0))
    let ops := s.cfg.flashOps
    let idFrame := ops.rdid :: List.replicate s.cfg.jedecIdLen 0
    (let m := s.flashHazards .poll
     m.OkFor 2 → exec .fRdsr1 s = .next ((sent m [ops.rdsr1, 0]).answer (byte1 m [ops.rdsr1, 0]))) ∧
    let m := s.flashHazards .plain
    m.OkFor 2 →
      exec .fRdsr2 s = .next ((sent m [ops.rdsr2, 0]).answer (byte1 m [ops.rdsr2, 0])) ∧
      exec .fRdsr3 s = .next ((sent m [ops.rdsr3, 0]).answer (byte1 m [ops.rdsr3, 0])) ∧
      exec .fRdid s = .next ((sent m idFrame).answer (okResult (.bytes ((m.spiRx [] m.tap idFrame).drop 1))))

/-- The status-register writes (43_flash_commands.md R206 to R208, R223): the marks of the prologue and of a missing
write-enable, then one frame with the value, and the ghost fields of a write. -/
def Obligations.StatusRegisterWrites : Prop :=
  ∀ (s : State) (v : Byte), s.Ready →
    let m := (s.flashHazards .plain).writeEnableHazard
    m.OkFor 2 →
      let after := fun (op : Byte) =>
        { m.saw (m.framed [] m.tap [op, v] true) (exitState m.cfg .dr) false false with
          weIssued := false
          mustPoll := true }
      exec (.fWrsr1 v) s = .next ((after m.cfg.flashOps.wrsr1).answer (okResult .none)) ∧
      exec (.fWrsr2 v) s = .next ((after m.cfg.flashOps.wrsr2).answer (okResult .none)) ∧
      exec (.fWrsr3 v) s = .next ((after m.cfg.flashOps.wrsr3).answer (okResult .none))

/-- The erase commands (43_flash_commands.md R209 to R213, R223): the marks of the prologue, a write-enable frame, and then the
erase frame, as two full transactions, the address sent as given. -/
def Obligations.EraseCommands : Prop :=
  ∀ (s : State) (a : Addr), s.Ready →
    let m := s.flashHazards .plain
    m.OkFor 4 →
      let enable := m.framed [] m.tap [m.cfg.flashOps.wren] true
      let after := fun (frame : List Byte) =>
        { m.saw (m.framed enable (exitState m.cfg .dr) frame true) (exitState m.cfg .dr) false false with
          weIssued := false
          mustPoll := true }
      exec .fCe s = .next ((after [m.cfg.flashOps.ce]).answer (okResult .none)) ∧
      exec (.fSe4k a) s = .next ((after (m.cfg.flashOps.se4k :: be24 a)).answer (okResult .none)) ∧
      exec (.fBe32k a) s = .next ((after (m.cfg.flashOps.be32k :: be24 a)).answer (okResult .none)) ∧
      exec (.fBe64k a) s = .next ((after (m.cfg.flashOps.be64k :: be24 a)).answer (okResult .none))

/-- `F_PP` (43_flash_commands.md R214, R223): the marks of the prologue; a write-enable frame; then the header held and the
data, which ends it, as one transaction. -/
def Obligations.PageProgramCommand : Prop :=
  ∀ (s : State) (a : Addr) (data : List Byte), s.Ready → pageLenOk s.cfg a data.length = true →
    let m := s.flashHazards .plain
    m.OkFor 5 →
      let enable := m.framed [] m.tap [m.cfg.flashOps.wren] true
      let header := m.framed enable (exitState m.cfg .dr) (m.cfg.flashOps.pp :: be24 a) false
      exec (.fPp a data) s = .next
        ({ m.saw (m.framed header .shiftDr data true) (exitState m.cfg .dr) false false with
            weIssued := false
            mustPoll := true }.answer (okResult .none))

/-- The streamed read (43_flash_commands.md R216, R217; 10_state.md R38): `F_READ` sends its header held and opens the read;
`F_CONT_READ` shifts fill bytes through the open read, the TAP staying in SHIFT_DR, and returns what came. Each marks what its
prologue marks (R200). -/
def Obligations.StreamedReadCommands : Prop :=
  ∀ s : State, s.Ready →
    (∀ a : Addr,
      let m := s.flashHazards .plain
      m.OkFor 2 →
        exec (.fRead a) s = .next
          ((m.saw (m.framed [] m.tap (m.cfg.flashOps.read :: be24 a) false) .shiftDr true m.burstOpen).answer
            (okResult .none))) ∧
    ∀ n : Len, s.rdOpen = true → xferLenOk s.cfg n.toNat = true →
      let m := s.flashHazards .contRead
      m.OkFor 2 →
        let fill := List.replicate n.toNat (0 : Byte)
        exec (.fContRead n) s = .next
          ((m.saw (m.framed [] m.tap fill false) .shiftDr true m.burstOpen).answer
            (okResult (.bytes (m.spiRx [] m.tap fill))))

/-- `F_WAIT` and each poll of a wait, that of `F_WAIT`, of `F_UNPROTECT` and of a macro (43_flash_commands.md R218,
10_state.md R52). The wait starts with the counter 0 and no poll. A poll reads status register 1. A ready reading adds 1 to the
counter, a busy one sets it to 0. At `READY_DEBOUNCE` the wait ends with the polls made, the counter 0 and `mustPoll` clear, and
a macro goes on with the rest of its expansion; else the wait goes on, a delay after. One poll is one step of the model
(log 6). -/
def Obligations.BusyWait : Prop :=
  ∀ s : State, s.Ready →
    let poll := [s.cfg.flashOps.rdsr1, 0]
    let next := fun (m : State) (count : Nat) =>
      if ((m.spiRx [] m.tap poll).getD 1 0).getLsbD m.cfg.busyBit then 0 else count + 1
    let polled := fun (m : State) => m.saw (m.framed [] m.tap poll true) (exitState m.cfg .dr) false false
    let waits := fun (m : State) (count : Nat) (t : Task) =>
      ({ polled m with
        rdyCount := next m count
        trace := (polled m).trace ++ [.delay m.cfg.pollDelay]
        task := some t } : State)
    let ends := fun (m : State) => ({ polled m with rdyCount := 0, mustPoll := false, task := none } : State)
    (s.task = none →
      let m := s.flashHazards .poll
      m.OkFor 2 →
        exec .fWait s = .next
          (if next m 0 = m.cfg.readyDebounce then (ends m).answer (okResult (.polls 1))
           else waits m 0 ⟨1, .wait, none⟩)) ∧
    ∀ polls : Nat, s.OkFor 2 →
      (∀ (cmd : WaitCmd) (outer : Option Expansion), next s s.rdyCount ≠ s.cfg.readyDebounce →
        resume ⟨polls, cmd, outer⟩ s = .next (waits s s.rdyCount ⟨polls + 1, cmd, outer⟩)) ∧
      (next s s.rdyCount = s.cfg.readyDebounce →
        resume ⟨polls, .wait, none⟩ s = .next ((ends s).answer (okResult (.polls (polls + 1)))) ∧
        ∀ e : Expansion, resume ⟨polls, .wait, some e⟩ s =
          commit (idleOnStop (runPlan e.kind e.rest (keepData e.keep (.polls (polls + 1)) e.notes)))
            ((ends s).setResult (okResult (.polls (polls + 1)))))

/-- `F_UNPROTECT` (43_flash_commands.md R220, R223): the marks of the prologue and of a missing write-enable; status register 1
written with 0x00; the polls of R218; and once they are satisfied, at the first poll where `READY_DEBOUNCE` is 1, the register
read back and a discrepancy told. Inside a macro the macro goes on. The polls between are those of `BusyWait`. One poll is one
step of the model: a wait that is not satisfied is kept as a command in progress, and resumed (log 6). -/
def Obligations.UnprotectCommand : Prop :=
  ∀ s : State, s.Ready →
    let poll := [s.cfg.flashOps.rdsr1, 0]
    let back := fun (u : State) (evs : List Event) => u.framed evs (exitState u.cfg .dr) poll true
    let told := fun (u : State) (evs : List Event) =>
      let sr1 := (u.spiRx evs (exitState u.cfg .dr) poll).getD 1 0
      ResultData.unprotect ⟨sr1 != 0, sr1⟩
    (s.task = none →
      let m := (s.flashHazards .plain).writeEnableHazard
      m.OkFor 6 →
        let write := m.framed [] m.tap [m.cfg.flashOps.wrsr1, 0] true
        let evs := back m write
        let next := if ((m.spiRx write (exitState m.cfg .dr) poll).getD 1 0).getLsbD m.cfg.busyBit then 0 else 1
        exec .fUnprotect s = .next
          (if next = m.cfg.readyDebounce then
            { m.saw (back m evs) (exitState m.cfg .dr) false false with
              weIssued := false
              mustPoll := false
              rdyCount := 0 }.answer (okResult (told m evs))
           else
            { m.saw (evs ++ [Event.delay m.cfg.pollDelay]) (exitState m.cfg .dr) false false with
              weIssued := false
              mustPoll := true
              rdyCount := next
              task := some ⟨1, .unprotect, none⟩ })) ∧
    ∀ polls : Nat, s.OkFor 4 → s.rdyCount + 1 = s.cfg.readyDebounce →
      ((s.spiRx [] s.tap poll).getD 1 0).getLsbD s.cfg.busyBit = false →
      let first := s.framed [] s.tap poll true
      let ended : State :=
        { s.saw (back s first) (exitState s.cfg .dr) false false with rdyCount := 0, mustPoll := false, task := none }
      resume ⟨polls, .unprotect, none⟩ s = .next (ended.answer (okResult (told s first))) ∧
      ∀ e : Expansion, resume ⟨polls, .unprotect, some e⟩ s =
        commit (idleOnStop (runPlan e.kind e.rest (keepData e.keep (told s first) e.notes)))
          (ended.setResult (okResult (told s first)))

/-! ## The configuration commands -/

/-- The simple configuration commands (44_config_sequencer.md R250 to R255, R259, R260): the family's instruction, its
parameter if it has one, RUN_TEST_IDLE, and the settle as the last event. -/
def Obligations.SimpleConfigurationCommands : Prop :=
  ∀ (s : State) (f : Family), s.Ready → s.cfg.Wf → s.knownFamily = some f → s.OkFor 6 →
    let after := fun (n : IrName) =>
      let load := s.loaded [] s.tap ((s.cfg.fam f).ir.get n)
      let evs := match (s.cfg.fam f).param.get n with
        | none => load ++ goTos (exitState s.cfg .ir) .runTestIdle
        | some b =>
          s.shifted (load ++ [Event.goTo .shiftDr]) .dr [b] true ++ goTos (exitState s.cfg .dr) .runTestIdle
      let keeps := ((s.cfg.fam f).param.get n).isNone && survives s.tap .shiftIr
      { s.saw (evs ++ [Event.settle s.cfg.settleCycles]) .runTestIdle (s.rdOpen && keeps) (s.burstOpen && keeps) with
        pt := false }
    exec .cEnable s = .next ((after .enable).answer (okResult .none)) ∧
    exec .cErase s = .next ((after .erase).answer (okResult .none)) ∧
    exec .cDisable s = .next ((after .disable).answer (okResult .none)) ∧
    exec .cResetCrc s = .next ((after .resetCrc).answer (okResult .none)) ∧
    exec .cRefresh s = .next ((after .refresh).answer (okResult .none))

/-- The bitstream burst. `C_BURST` (44_config_sequencer.md R256, 70_reset_and_hazards.md R380): the burst instruction, then
CAPTURE_DR and not RUN_TEST_IDLE, no settle; the burst is open. `C_BURST_DATA` (R257, 40_bit_order.md R143): in an open burst,
the chunk bit-reversed, shifted without leaving SHIFT_DR; the burst stays open and what came is discarded. -/
def Obligations.BurstCommands : Prop :=
  ∀ s : State, s.Ready → s.OkFor 3 →
    (∀ f : Family, s.cfg.Wf → s.knownFamily = some f →
      exec .cBurst s = .next
        ({ s.saw (s.loaded [] s.tap (s.cfg.fam f).ir.burst ++ [Event.goTo .captureDr]) .captureDr
            (s.rdOpen && survives s.tap .shiftIr) true with pt := false }.answer (okResult .none))) ∧
    ∀ data : List Byte, s.burstOpen = true → xferLenOk s.cfg data.length = true →
      exec (.cBurstData data) s = .next
        ((s.saw (s.framed [] s.tap data false) .shiftDr s.rdOpen true).answer (okResult .none))

/-- `C_PASSTHROUGH` (44_config_sequencer.md R258, 10_state.md R41): the passthrough instruction, the unlock sequence raw,
RUN_TEST_IDLE, and passthrough is entered; no settle. -/
def Obligations.PassthroughCommand : Prop :=
  ∀ (s : State) (f : Family), s.Ready → s.cfg.Wf → s.knownFamily = some f → s.OkFor 5 →
    let unlock := s.shifted (s.loaded [] s.tap (s.cfg.fam f).ir.passthrough ++ [Event.goTo .shiftDr]) .dr
      (s.cfg.fam f).unlock true
    exec .cPassthrough s = .next
      ({ s.saw (unlock ++ goTos (exitState s.cfg .dr) .runTestIdle) .runTestIdle false false with
          pt := true }.answer (okResult .none))

/-! ## The SPI and TAP rows -/

/-- The SPI rows of one frame, sent by themselves (30_encoding.md R103, R105; the model's own presentation, log 10), with the
frame's ghost fields and mark (43_flash_commands.md R223) and no mark of R200. -/
def Obligations.SpiFrameRows : Prop :=
  ∀ s : State, s.Ready → s.OkFor 2 →
    let sent := fun (frame : List Byte) => s.saw (s.framed [] s.tap frame true) (exitState s.cfg .dr) false false
    let ops := s.cfg.flashOps
    let byte1 := fun (frame : List Byte) => okResult (.byte ((s.spiRx [] s.tap frame).getD 1 0))
    let idFrame := ops.rdid :: List.replicate s.cfg.jedecIdLen 0
    exec .opWren s = .next ({ sent [ops.wren] with weIssued := true }.answer (okResult .none)) ∧
    exec .opWrdi s = .next ({ sent [ops.wrdi] with weIssued := false }.answer (okResult .none)) ∧
    exec .opRdsr1 s = .next ((sent [ops.rdsr1, 0]).answer (byte1 [ops.rdsr1, 0])) ∧
    exec .opRdsr2 s = .next ((sent [ops.rdsr2, 0]).answer (byte1 [ops.rdsr2, 0])) ∧
    exec .opRdsr3 s = .next ((sent [ops.rdsr3, 0]).answer (byte1 [ops.rdsr3, 0])) ∧
    exec .opRdid s = .next ((sent idFrame).answer (okResult (.bytes ((s.spiRx [] s.tap idFrame).drop 1)))) ∧
    exec .opCe s = .next ({ sent [ops.ce] with weIssued := false, mustPoll := true }.answer (okResult .none)) ∧
    (∀ v : Byte,
      let m := s.writeEnableHazard
      m.OkFor 2 →
      let write := fun (op : Byte) =>
        ({ m.saw (m.framed [] m.tap [op, v] true) (exitState m.cfg .dr) false false with
          weIssued := false
          mustPoll := true } : State).answer (okResult .none)
      exec (.opWrsr1 v) s = .next (write ops.wrsr1) ∧ exec (.opWrsr2 v) s = .next (write ops.wrsr2) ∧
      exec (.opWrsr3 v) s = .next (write ops.wrsr3)) ∧
    ∀ a : Addr,
      let erase := fun (op : Byte) =>
        ({ sent (op :: be24 a) with weIssued := false, mustPoll := true } : State).answer (okResult .none)
      exec (.opSe4k a) s = .next (erase ops.se4k) ∧ exec (.opBe32k a) s = .next (erase ops.be32k) ∧
      exec (.opBe64k a) s = .next (erase ops.be64k)

/-- The SPI rows of two frames in one transaction (30_encoding.md R105, S3H and SD; log 10): the page program, and the read
with as many bytes as its frame holds. The fast-read row is refused: no command sends it (43_flash_commands.md R222). -/
def Obligations.SpiHeldRows : Prop :=
  ∀ (s : State) (a : Addr), s.Ready → s.OkFor 3 →
    let header := fun (op : Byte) => s.framed [] s.tap (op :: be24 a) false
    (∀ data : List Byte, pageLenOk s.cfg a data.length = true →
      exec (.opPp a data) s = .next
        ({ s.saw (s.framed (header s.cfg.flashOps.pp) .shiftDr data true) (exitState s.cfg .dr) false false with
            weIssued := false
            mustPoll := true }.answer (okResult .none))) ∧
    exec (.opRead a 0) s = .next ((s.saw (header s.cfg.flashOps.read) .shiftDr true s.burstOpen).answer
      (okResult (.bytes []))) ∧
    (∀ count : Nat, 1 ≤ count → count ≤ s.cfg.maxXferBytes →
      let fill := List.replicate count (0 : Byte)
      exec (.opRead a count) s = .next
        ((s.saw (s.framed (header s.cfg.flashOps.read) .shiftDr fill false) .shiftDr true s.burstOpen).answer
          (okResult (.bytes (s.spiRx (header s.cfg.flashOps.read) .shiftDr fill))))) ∧
    exec .opFastRead s = .refused .fastReadNeverSent

/-- The TAP rows (30_encoding.md R104, R106; the model's own presentation, log 10): the instruction loaded, which ends
passthrough (44_config_sequencer.md R260), and nothing more. -/
def Obligations.TapRows : Prop :=
  ∀ s : State, s.Ready → s.cfg.Wf → s.OkFor 2 →
    let after := fun (code : Byte) =>
      ({ s.saw (s.loaded [] s.tap code) (exitState s.cfg .ir) (s.rdOpen && survives s.tap .shiftIr)
          (s.burstOpen && survives s.tap .shiftIr) with pt := false } : State).answer (okResult .none)
    exec .irIdcode s = .next (after s.cfg.irIdcode) ∧
    ∀ f : Family, s.knownFamily = some f →
      let ir := (s.cfg.fam f).ir
      exec .irStatus s = .next (after ir.status) ∧ exec .irEnable s = .next (after ir.enable) ∧
      exec .irErase s = .next (after ir.erase) ∧ exec .irDisable s = .next (after ir.disable) ∧
      exec .irResetCrc s = .next (after ir.resetCrc) ∧ exec .irBurst s = .next (after ir.burst) ∧
      exec .irRefresh s = .next (after ir.refresh) ∧ exec .irPassthrough s = .next (after ir.passthrough)

/-! ## The macros -/

/-- Every macro runs (45_orchestrator.md R280, R282 to R296). With every answer Ok and a device it can work with, none stops
early: it identifies the device once (42_identity_status.md R173), and comes to its end with OK, or VERIFY_MISMATCH where it
compared, its phases entered in their order; or to its first busy wait, whose rest later steps run (log 6). And a macro stops
early as R297 says: with family Unknown under the policy `Refuse` at its first configuration command (R282; not
`M_IDENTIFY`), and with a failed answer at that answer, from its start and in any step that goes on with it. Then no further
sub-command is issued, it returns that sub-command's result, and the orchestrator goes straight to Idle. Where the session's
device is Unknown and the IDCODE just read is not, that no READ_STATUS is issued, so that the macro enters its own phase and
stops at `C_ENABLE` there as well, is the model's choice (log 17). The first clause is about a `READY_DEBOUNCE` of at least 2,
under which a wait never ends at its first poll (with 1 a wait may end in the macro's own step), and about a `READ_CHUNK` of
at most `MAX_XFER_BYTES`, without which a read's sub-command is refused. -/
def Obligations.MacrosReachTheirFirstWait : Prop :=
  (∀ (i : Instr) (s : State) (k : MacroKind) (items : List PlanItem), s.Ready → s.cfg.Wf → s.task = none →
    i.WellFormed s.cfg → i.expansion s.cfg = some (k, items) →
    (s.identified.family ≠ .unknown ∨ s.cfg.unknownPolicy = .treatAsA) → s.cfg.readChunk ≤ s.cfg.maxXferBytes →
    2 ≤ s.cfg.readyDebounce → s.OkThrough (6 * items.length) →
    ∃ t, exec i s = .next t ∧ t.Ready ∧ t.dev = some s.identified ∧ t.cfg = s.cfg ∧ t.inbox = s.inbox ∧
      match firstWait items with
      | none =>
        t.task = none ∧ t.orch = .idle ∧ t.orchLog = s.orchLog ++ phases items ++ [.done, .idle] ∧
          ∃ r, t.results = s.results ++ [r] ∧ r.reason = .none ∧
            (r.kind = .ok ∨ (k = .verify ∧ r.kind = .verifyMismatch))
      | some (before, cmd, keep, rest) =>
        t.results = s.results ∧ t.orchLog = s.orchLog ++ phases before ∧
          ∃ notes, t.task = some ⟨1, cmd, some ⟨k, keep, rest, notes⟩⟩) ∧
  (∀ (i : Instr) (s : State) (k : MacroKind) (items : List PlanItem), s.Ready → s.cfg.Wf → i.WellFormed s.cfg →
    i.expansion s.cfg = some (k, items) → k ≠ .identify → s.identified.family = .unknown →
    s.cfg.unknownPolicy = .refuse → s.OkFor 4 →
    exec i s = .next
      ({ s.saw (s.shifted (s.loaded [] s.tap s.cfg.irIdcode ++ [Event.goTo .shiftDr]) .dr [0, 0, 0, 0] true)
            (exitState s.cfg .dr) false false with
          pt := false
          dev := some s.identified
          orch := OrchState.idle
          orchLog := s.orchLog ++ (phases items).take 2 ++ [OrchState.idle] }.answer (refusedResult .unknownFamily))) ∧
  ∀ (s : State) (n : Nat), s.Ready → s.cfg.Wf → s.target = none → (∀ j < n, (s.answerAt j).ok = true) →
    (s.answerAt n).ok = false →
    let stopsThere := fun (items : List PlanItem) (o : Host.Outcome State Fault Refusal) =>
      ∃ t, o = .next t ∧
        (t.drawn ≤ s.drawn + n ∨
          (t.drawn = s.drawn + n + 1 ∧ t.err = true ∧ t.task = none ∧ t.orch = .idle ∧
            t.results = s.results ++ [failedResult .transport] ∧
            ∃ entered, t.orchLog = s.orchLog ++ (phases items).take entered ++ [.idle]))
    (∀ (i : Instr) (k : MacroKind) (items : List PlanItem), s.task = none → i.WellFormed s.cfg →
      i.expansion s.cfg = some (k, items) → stopsThere items (exec i s)) ∧
    ∀ (w : Task) (e : Expansion), w.outer = some e → PlanOk e.rest → stopsThere e.rest (resume w s)

/-- A macro raises no hazard mark, from any start with `s.mustPoll = false` (45_orchestrator.md R298), as far as it runs and
whatever the answers are. -/
def Obligations.MacrosRaiseNoHazard : Prop :=
  ∀ (i : Instr) (s t : State) (k : Nat), i.isMacro = true → s.task = none → s.mustPoll = false →
    untilIdle k (exec i s) = .next t → t.hz = s.hz

/-- The image of `M_LOAD_SRAM` is one continuous DR shift, bit-reversed, whatever the chunk size (45_orchestrator.md R285,
44_config_sequencer.md R257, 70_reset_and_hazards.md R380, R383): between the move to CAPTURE_DR and the next IR load there is
nothing but held DR shifts, and their bits are the image's. It raises no mark, so a reference target answers throughout,
after a REFRESH too (log 31). -/
def Obligations.SramImageIsOneShift : Prop :=
  ∀ (s : State) (data : List Byte) (opts : Byte), s.Ready → s.cfg.Wf → optsOk refreshOnly opts = true →
    (s.identified.family ≠ .unknown ∨ s.cfg.unknownPolicy = .treatAsA) →
    s.OkFor (6 * (planLoadSram s.cfg data opts).length) →
    ∃ (t : State) (before burst after : List Event), exec (.mLoadSram data opts) s = .next t ∧
      t.results = s.results ++ [okResult .none] ∧
      t.trace = s.trace ++ before ++ [.goTo .captureDr] ++ burst ++ [.goTo .shiftIr] ++ after ∧
      drBits burst = wireBits (revBuf data) ∧
      ∀ e ∈ burst, e = .goTo .shiftDr ∨ ∃ tx rx, e = .shift .dr tx (8 * tx.length) false rx

/-! ## The flash of the reference target -/

/-- No step of a hazard-free run changes a flash byte but by an SPI transaction that ended during it and can store to the byte's
address: a chip erase, a block erase of its block, a page program that writes there (20_memory.md R80, R83, R84; 60_exceptions.md
R348). Where the byte is known before and after, the step raised no mark (R334, log 14). The target is the reference model's
(log 14), in its corners as logs 15, 28, 29 and 32 say, and after a REFRESH as log 31 says. -/
def Obligations.StoresFollowTheWire : Prop :=
  ∀ (s s' : State) (a : Nat) (v w : Byte), s.HazardFree → step s = .next s' → s.flashAt a = some v →
    s'.flashAt a = some w →
    s'.HazardFree ∧ (v ≠ w →
      ∃ evs, s'.trace = s.trace ++ evs ∧ ∃ raw ∈ (drStays s.openStay evs).1, wireStores s.cfg raw a = true)

/-- The erase and program commands on a ready flash (20_memory.md R79, R80, R84; 43_flash_commands.md R209 to R214): an erase
sets its block, or all, to 0xFF and nothing else; a page program ANDs its data into its page and changes nothing else. The
target's behaviour is the reference model's (log 14). The run is hazard-free at its start and its end (60_exceptions.md R348). -/
def Obligations.FlashEffects : Prop :=
  ∀ (s : State) (t : Target), s.Inv → s.Ready → s.FlashReady t →
    (∃ u, exec .fCe s = .next u ∧ u.HazardFree ∧ ∀ x, u.flashAt x = some 0xFF) ∧
    (∀ a : Addr,
      (∃ u, exec (.fSe4k a) s = .next u ∧ u.HazardFree ∧
        ∀ x, u.flashAt x = if inBlock s.cfg.erase4K a.toNat x then some 0xFF else s.flashAt x) ∧
      (∃ u, exec (.fBe32k a) s = .next u ∧ u.HazardFree ∧
        ∀ x, u.flashAt x = if inBlock s.cfg.erase32K a.toNat x then some 0xFF else s.flashAt x) ∧
      (∃ u, exec (.fBe64k a) s = .next u ∧ u.HazardFree ∧
        ∀ x, u.flashAt x = if inBlock s.cfg.erase64K a.toNat x then some 0xFF else s.flashAt x)) ∧
    ∀ (a : Addr) (data : List Byte), pageLenOk s.cfg a data.length = true →
      ∃ u, exec (.fPp a data) s = .next u ∧ u.HazardFree ∧
        (∀ x, (∀ i < data.length, x ≠ programmedAt a.toNat i) → u.flashAt x = s.flashAt x) ∧
        (s.cfg.pageSize ≤ 256 → ∀ i d, data[i]? = some d →
          u.flashAt (a.toNat + i) = (s.flashAt (a.toNat + i)).map (· &&& d))

/-- A streamed read returns the flash's bytes from its address on, whatever the cut into `F_CONT_READ` commands, and past the
top from address 0 (20_memory.md R77, R84; 43_flash_commands.md R216, R217); it changes none (R83). The target is the
reference model's (log 14); the run is hazard-free throughout (`FlashReady`, `ReadingAt`; 60_exceptions.md R348). -/
def Obligations.StreamedReadOnTarget : Prop :=
  ∀ s : State, s.Ready → s.cfg.Wf →
    (∀ (t : Target) (a : Addr), s.FlashReady t →
      ∃ u, exec (.fRead a) s = .next u ∧ u.ReadingAt a 0 ∧ ∀ x, u.flashAt x = s.flashAt x) ∧
    ∀ (a : Addr) (m : Nat) (n : Len), s.ReadingAt a m → xferLenOk s.cfg n.toNat = true →
      ∃ u bs, exec (.fContRead n) s = .next u ∧ u.ReadingAt a (m + n.toNat) ∧ (∀ x, u.flashAt x = s.flashAt x) ∧
        u.results = s.results ++ [okResult (.bytes bs)] ∧ bs.length = n.toNat ∧
        ∀ j < n.toNat, bs[j]? = s.flashAt ((a.toNat + m + j) % 2 ^ 24)

/-- `F_WAIT` ends exactly when the flash has been ready for `READY_DEBOUNCE` polls, and not before (43_flash_commands.md R218):
on a flash that is busy for b polls it makes b + `READY_DEBOUNCE`. The flash is the reference model's (log 14), in passthrough,
and the run hazard-free from its start to its end (60_exceptions.md R348); a write may be pending. And there is no bound
(R219): while every poll reads busy, a wait goes on, one poll a step (log 6). -/
def Obligations.WaitsEndWhenReady : Prop :=
  (∀ (s : State) (t : Target), s.Ready → s.cfg.Wf → s.task = none → s.cfg.busyBit = 0 → s.HazardFree → s.pt = true →
    s.target = some t → t.mode = .passthrough → s.tap ≠ .shiftDr →
    ∃ k u, untilIdle k (exec .fWait s) = .next u ∧ u.task = none ∧ u.mustPoll = false ∧ u.HazardFree ∧
      u.results = s.results ++ [okResult (.polls (t.busyPolls + s.cfg.readyDebounce))] ∧
      (∀ x, u.flashAt x = s.flashAt x) ∧ ∃ t', u.target = some t' ∧ t'.busyPolls = 0) ∧
  ∀ (s : State) (w : Task) (n : Nat), s.Ready → s.cfg.Wf → s.task = some w → s.target = none →
    (∀ j < 2 * n, (s.answerAt j).ok = true ∧
      ∃ b, (s.answerAt j).rx[1]? = some b ∧ (rev8 b).getLsbD s.cfg.busyBit = true) →
    ∃ u, untilIdle n (.next s) = .next u ∧ u.task = some { w with polls := w.polls + n } ∧ u.results = s.results

/-- `M_READ` returns the flash's bytes, and `M_VERIFY` compares them and reports the first that differs; neither changes one
(45_orchestrator.md R291, R292, R294, R296; 20_memory.md R77, R83, R84). The target is the reference model's (log 14), after a REFRESH
too (log 31); the run is hazard-free at its start (`OnTarget`) and its end (60_exceptions.md R348). -/
def Obligations.ReadAndVerifyOnTarget : Prop :=
  ∀ (s : State) (t : Target) (offset : Addr) (opts : Byte), s.Ready → s.cfg.Wf → s.OnTarget t → ResetIsNoOpcode s.cfg →
    s.cfg.readChunk ≤ s.cfg.maxXferBytes →
    (∀ len : Len, (Instr.mRead offset len opts).WellFormed s.cfg →
      ∃ u bs, exec (.mRead offset len opts) s = .next u ∧ u.HazardFree ∧
        u.results = s.results ++ [okResult (.bytes bs)] ∧
        bs.length = len.toNat ∧ (∀ j < len.toNat, bs[j]? = s.flashAt (offset.toNat + j)) ∧
        ∀ x, u.flashAt x = s.flashAt x) ∧
    ∀ data : List Byte, (Instr.mVerify offset data opts).WellFormed s.cfg →
      ∃ u r, exec (.mVerify offset data opts) s = .next u ∧ u.HazardFree ∧
        u.results = s.results ++ [r] ∧
        (∀ x, u.flashAt x = s.flashAt x) ∧
        ((∀ j < data.length, s.flashAt (offset.toNat + j) = data[j]?) → r = okResult .none) ∧
        ∀ m < data.length, (∀ j < m, s.flashAt (offset.toNat + j) = data[j]?) →
          s.flashAt (offset.toNat + m) ≠ data[m]? →
          r = ⟨.verifyMismatch, .none, .mismatch (BitVec.ofNat 24 (offset.toNat + m))⟩

/-- `M_ERASE` on a flash that becomes ready again: it ends with OK, its region reads 0xFF, and every other byte is as before
(45_orchestrator.md R287, R288, R293; 20_memory.md R84). The target is the reference model's (log 14), after a REFRESH too
(log 31); the run is hazard-free at its start (`OnTarget`) and its end (60_exceptions.md R348). -/
def Obligations.EraseOnTarget : Prop :=
  ∀ (s : State) (t : Target) (offset : Addr) (len : Len) (gran : BitVec 2) (g : Gran) (opts : Byte), s.Inv → s.Ready →
    s.task = none → s.OnTarget t → s.cfg.busyBit = 0 → ResetIsNoOpcode s.cfg → granOf gran = some g →
    s.cfg.eraseSize g ≤ 2 ^ 24 → (Instr.mErase offset len gran opts).WellFormed s.cfg →
    ∃ k u, untilIdle k (exec (.mErase offset len gran opts) s) = .next u ∧ u.task = none ∧ u.HazardFree ∧
      u.results = s.results ++ [okResult .none] ∧
      ∀ x, u.flashAt x =
        if eraseBegin offset.toNat (s.cfg.eraseSize g) ≤ x ∧ x < eraseEnd offset.toNat len.toNat (s.cfg.eraseSize g) then
          some 0xFF
        else s.flashAt x

/-- `M_PROGRAM` on a flash that becomes ready again (45_orchestrator.md R286 to R291, R296; 20_memory.md R79, R84): what it
erases, nothing under NOERASE, reads 0xFF, its image is ANDed into what is then there, and every other byte is as before; so
after an erase the flash holds the image. It ends with OK where the flash holds the image or none is compared (NOVERIFY), and
else with VERIFY_MISMATCH and the first address that differs. The target is the reference model's (log 14), after a
REFRESH too (log 31); the run is hazard-free at its start (`OnTarget`) and its end (60_exceptions.md R348). -/
def Obligations.ProgramOnTarget : Prop :=
  ∀ (s : State) (t : Target) (offset : Addr) (gran : BitVec 2) (g : Gran) (data : List Byte) (opts : Byte), s.Inv →
    s.Ready → s.task = none → s.OnTarget t → s.cfg.busyBit = 0 → ResetIsNoOpcode s.cfg → granOf gran = some g →
    s.cfg.eraseSize g ≤ 2 ^ 24 → s.cfg.pageSize ≤ 256 → s.cfg.readChunk ≤ s.cfg.maxXferBytes →
    (Instr.mProgram offset gran data opts).WellFormed s.cfg →
    let erased := fun (x : Nat) => optBulk opts = true ∨
      (optNoErase opts = false ∧ eraseBegin offset.toNat (s.cfg.eraseSize g) ≤ x ∧
        x < eraseEnd offset.toNat data.length (s.cfg.eraseSize g))
    ∃ k u dev jedec unprotect first, untilIdle k (exec (.mProgram offset gran data opts) s) = .next u ∧ u.task = none ∧
      u.HazardFree ∧
      u.results = s.results ++
        [⟨if first = none then .ok else .verifyMismatch, .none, .program dev jedec unprotect first⟩] ∧
      (∀ x, (x < offset.toNat ∨ offset.toNat + data.length ≤ x) →
        (erased x → u.flashAt x = some 0xFF) ∧ (¬erased x → u.flashAt x = s.flashAt x)) ∧
      (∀ j d, data[j]? = some d →
        (erased (offset.toNat + j) → u.flashAt (offset.toNat + j) = some d) ∧
        (¬erased (offset.toNat + j) →
          u.flashAt (offset.toNat + j) = (s.flashAt (offset.toNat + j)).map (· &&& d))) ∧
      (optNoErase opts = false ∨ optNoVerify opts = true → first = none) ∧
      (optNoVerify opts = false → (∀ j < data.length, u.flashAt (offset.toNat + j) = data[j]?) → first = none) ∧
      ∀ j < data.length, optNoVerify opts = false → (∀ i < j, u.flashAt (offset.toNat + i) = data[i]?) →
        u.flashAt (offset.toNat + j) ≠ data[j]? → first = some (BitVec.ofNat 24 (offset.toNat + j))
end

