-- ==== Sys2Proof/Laws/State.lean ====
section
/-! SUPPORT. One lemma for each field of State and each update of it: what the field is after the update. No proof needs to
unfold an update of the record. -/

namespace Sys2Proof.Machine

variable (s : State)

/-! ## `setResult` -/

@[simp] theorem State.setResult_session (r : Result) : (s.setResult r).session = s.session := rfl
@[simp] theorem State.setResult_err (r : Result) : (s.setResult r).err = s.err := rfl
@[simp] theorem State.setResult_dev (r : Result) : (s.setResult r).dev = s.dev := rfl
@[simp] theorem State.setResult_tap (r : Result) : (s.setResult r).tap = s.tap := rfl
@[simp] theorem State.setResult_orch (r : Result) : (s.setResult r).orch = s.orch := rfl
@[simp] theorem State.setResult_rdOpen (r : Result) : (s.setResult r).rdOpen = s.rdOpen := rfl
@[simp] theorem State.setResult_burstOpen (r : Result) : (s.setResult r).burstOpen = s.burstOpen := rfl
@[simp] theorem State.setResult_rdyCount (r : Result) : (s.setResult r).rdyCount = s.rdyCount := rfl
@[simp] theorem State.setResult_result (r : Result) : (s.setResult r).result = some r := rfl
@[simp] theorem State.setResult_pt (r : Result) : (s.setResult r).pt = s.pt := rfl
@[simp] theorem State.setResult_weIssued (r : Result) : (s.setResult r).weIssued = s.weIssued := rfl
@[simp] theorem State.setResult_mustPoll (r : Result) : (s.setResult r).mustPoll = s.mustPoll := rfl
@[simp] theorem State.setResult_hz (r : Result) : (s.setResult r).hz = s.hz := rfl
@[simp] theorem State.setResult_cfg (r : Result) : (s.setResult r).cfg = s.cfg := rfl
@[simp] theorem State.setResult_task (r : Result) : (s.setResult r).task = s.task := rfl
@[simp] theorem State.setResult_inbox (r : Result) : (s.setResult r).inbox = s.inbox := rfl
@[simp] theorem State.setResult_trace (r : Result) : (s.setResult r).trace = s.trace := rfl
@[simp] theorem State.setResult_results (r : Result) : (s.setResult r).results = s.results := rfl
@[simp] theorem State.setResult_orchLog (r : Result) : (s.setResult r).orchLog = s.orchLog := rfl
@[simp] theorem State.setResult_script (r : Result) : (s.setResult r).script = s.script := rfl
@[simp] theorem State.setResult_drawn (r : Result) : (s.setResult r).drawn = s.drawn := rfl
@[simp] theorem State.setResult_target (r : Result) : (s.setResult r).target = s.target := rfl

/-! ## `answer` -/

@[simp] theorem State.answer_session (r : Result) : (s.answer r).session = s.session := rfl
@[simp] theorem State.answer_err (r : Result) : (s.answer r).err = s.err := rfl
@[simp] theorem State.answer_dev (r : Result) : (s.answer r).dev = s.dev := rfl
@[simp] theorem State.answer_tap (r : Result) : (s.answer r).tap = s.tap := rfl
@[simp] theorem State.answer_orch (r : Result) : (s.answer r).orch = s.orch := rfl
@[simp] theorem State.answer_rdOpen (r : Result) : (s.answer r).rdOpen = s.rdOpen := rfl
@[simp] theorem State.answer_burstOpen (r : Result) : (s.answer r).burstOpen = s.burstOpen := rfl
@[simp] theorem State.answer_rdyCount (r : Result) : (s.answer r).rdyCount = s.rdyCount := rfl
@[simp] theorem State.answer_result (r : Result) : (s.answer r).result = some r := rfl
@[simp] theorem State.answer_pt (r : Result) : (s.answer r).pt = s.pt := rfl
@[simp] theorem State.answer_weIssued (r : Result) : (s.answer r).weIssued = s.weIssued := rfl
@[simp] theorem State.answer_mustPoll (r : Result) : (s.answer r).mustPoll = s.mustPoll := rfl
@[simp] theorem State.answer_hz (r : Result) : (s.answer r).hz = s.hz := rfl
@[simp] theorem State.answer_cfg (r : Result) : (s.answer r).cfg = s.cfg := rfl
@[simp] theorem State.answer_task (r : Result) : (s.answer r).task = s.task := rfl
@[simp] theorem State.answer_inbox (r : Result) : (s.answer r).inbox = s.inbox := rfl
@[simp] theorem State.answer_trace (r : Result) : (s.answer r).trace = s.trace := rfl
@[simp] theorem State.answer_results (r : Result) : (s.answer r).results = s.results ++ [r] := rfl
@[simp] theorem State.answer_orchLog (r : Result) : (s.answer r).orchLog = s.orchLog := rfl
@[simp] theorem State.answer_script (r : Result) : (s.answer r).script = s.script := rfl
@[simp] theorem State.answer_drawn (r : Result) : (s.answer r).drawn = s.drawn := rfl
@[simp] theorem State.answer_target (r : Result) : (s.answer r).target = s.target := rfl

/-! ## `emit` -/

@[simp] theorem State.emit_session (e : Event) : (s.emit e).session = s.session := rfl
@[simp] theorem State.emit_err (e : Event) : (s.emit e).err = s.err := rfl
@[simp] theorem State.emit_dev (e : Event) : (s.emit e).dev = s.dev := rfl
@[simp] theorem State.emit_tap (e : Event) : (s.emit e).tap = s.tap := rfl
@[simp] theorem State.emit_orch (e : Event) : (s.emit e).orch = s.orch := rfl
@[simp] theorem State.emit_rdOpen (e : Event) : (s.emit e).rdOpen = s.rdOpen := rfl
@[simp] theorem State.emit_burstOpen (e : Event) : (s.emit e).burstOpen = s.burstOpen := rfl
@[simp] theorem State.emit_rdyCount (e : Event) : (s.emit e).rdyCount = s.rdyCount := rfl
@[simp] theorem State.emit_result (e : Event) : (s.emit e).result = s.result := rfl
@[simp] theorem State.emit_pt (e : Event) : (s.emit e).pt = s.pt := rfl
@[simp] theorem State.emit_weIssued (e : Event) : (s.emit e).weIssued = s.weIssued := rfl
@[simp] theorem State.emit_mustPoll (e : Event) : (s.emit e).mustPoll = s.mustPoll := rfl
@[simp] theorem State.emit_hz (e : Event) : (s.emit e).hz = s.hz := rfl
@[simp] theorem State.emit_cfg (e : Event) : (s.emit e).cfg = s.cfg := rfl
@[simp] theorem State.emit_task (e : Event) : (s.emit e).task = s.task := rfl
@[simp] theorem State.emit_inbox (e : Event) : (s.emit e).inbox = s.inbox := rfl
@[simp] theorem State.emit_trace (e : Event) : (s.emit e).trace = s.trace ++ [e] := rfl
@[simp] theorem State.emit_results (e : Event) : (s.emit e).results = s.results := rfl
@[simp] theorem State.emit_orchLog (e : Event) : (s.emit e).orchLog = s.orchLog := rfl
@[simp] theorem State.emit_script (e : Event) : (s.emit e).script = s.script := rfl
@[simp] theorem State.emit_drawn (e : Event) : (s.emit e).drawn = s.drawn := rfl
@[simp] theorem State.emit_target (e : Event) : (s.emit e).target = s.target := rfl

/-! ## `advance` -/

@[simp] theorem State.advance_session : (s.advance).session = s.session := rfl
@[simp] theorem State.advance_err : (s.advance).err = s.err := rfl
@[simp] theorem State.advance_dev : (s.advance).dev = s.dev := rfl
@[simp] theorem State.advance_tap : (s.advance).tap = s.tap := rfl
@[simp] theorem State.advance_orch : (s.advance).orch = s.orch := rfl
@[simp] theorem State.advance_rdOpen : (s.advance).rdOpen = s.rdOpen := rfl
@[simp] theorem State.advance_burstOpen : (s.advance).burstOpen = s.burstOpen := rfl
@[simp] theorem State.advance_rdyCount : (s.advance).rdyCount = s.rdyCount := rfl
@[simp] theorem State.advance_result : (s.advance).result = s.result := rfl
@[simp] theorem State.advance_pt : (s.advance).pt = s.pt := rfl
@[simp] theorem State.advance_weIssued : (s.advance).weIssued = s.weIssued := rfl
@[simp] theorem State.advance_mustPoll : (s.advance).mustPoll = s.mustPoll := rfl
@[simp] theorem State.advance_hz : (s.advance).hz = s.hz := rfl
@[simp] theorem State.advance_cfg : (s.advance).cfg = s.cfg := rfl
@[simp] theorem State.advance_task : (s.advance).task = s.task := rfl
@[simp] theorem State.advance_inbox : (s.advance).inbox = s.inbox := rfl
@[simp] theorem State.advance_trace : (s.advance).trace = s.trace := rfl
@[simp] theorem State.advance_results : (s.advance).results = s.results := rfl
@[simp] theorem State.advance_orchLog : (s.advance).orchLog = s.orchLog := rfl
@[simp] theorem State.advance_script : (s.advance).script = s.script.tail := rfl
@[simp] theorem State.advance_drawn : (s.advance).drawn = s.drawn + 1 := rfl
@[simp] theorem State.advance_target : (s.advance).target = s.target := rfl

/-! ## `fail` -/

@[simp] theorem State.fail_session : (s.fail).session = s.session := rfl
@[simp] theorem State.fail_err : (s.fail).err = true := rfl
@[simp] theorem State.fail_dev : (s.fail).dev = s.dev := rfl
@[simp] theorem State.fail_tap : (s.fail).tap = s.tap := rfl
@[simp] theorem State.fail_orch : (s.fail).orch = s.orch := rfl
@[simp] theorem State.fail_rdOpen : (s.fail).rdOpen = s.rdOpen := rfl
@[simp] theorem State.fail_burstOpen : (s.fail).burstOpen = s.burstOpen := rfl
@[simp] theorem State.fail_rdyCount : (s.fail).rdyCount = s.rdyCount := rfl
@[simp] theorem State.fail_result : (s.fail).result = s.result := rfl
@[simp] theorem State.fail_pt : (s.fail).pt = s.pt := rfl
@[simp] theorem State.fail_weIssued : (s.fail).weIssued = s.weIssued := rfl
@[simp] theorem State.fail_mustPoll : (s.fail).mustPoll = s.mustPoll := rfl
@[simp] theorem State.fail_hz : (s.fail).hz = s.hz := rfl
@[simp] theorem State.fail_cfg : (s.fail).cfg = s.cfg := rfl
@[simp] theorem State.fail_task : (s.fail).task = s.task := rfl
@[simp] theorem State.fail_inbox : (s.fail).inbox = s.inbox := rfl
@[simp] theorem State.fail_trace : (s.fail).trace = s.trace := rfl
@[simp] theorem State.fail_results : (s.fail).results = s.results := rfl
@[simp] theorem State.fail_orchLog : (s.fail).orchLog = s.orchLog := rfl
@[simp] theorem State.fail_script : (s.fail).script = s.script := rfl
@[simp] theorem State.fail_drawn : (s.fail).drawn = s.drawn := rfl
@[simp] theorem State.fail_target : (s.fail).target = s.target := rfl

/-! ## `targetGoTo` -/

@[simp] theorem State.targetGoTo_session (dst : TapState) : (s.targetGoTo dst).session = s.session := rfl
@[simp] theorem State.targetGoTo_err (dst : TapState) : (s.targetGoTo dst).err = s.err := rfl
@[simp] theorem State.targetGoTo_dev (dst : TapState) : (s.targetGoTo dst).dev = s.dev := rfl
@[simp] theorem State.targetGoTo_tap (dst : TapState) : (s.targetGoTo dst).tap = s.tap := rfl
@[simp] theorem State.targetGoTo_orch (dst : TapState) : (s.targetGoTo dst).orch = s.orch := rfl
@[simp] theorem State.targetGoTo_rdOpen (dst : TapState) : (s.targetGoTo dst).rdOpen = s.rdOpen := rfl
@[simp] theorem State.targetGoTo_burstOpen (dst : TapState) : (s.targetGoTo dst).burstOpen = s.burstOpen := rfl
@[simp] theorem State.targetGoTo_rdyCount (dst : TapState) : (s.targetGoTo dst).rdyCount = s.rdyCount := rfl
@[simp] theorem State.targetGoTo_result (dst : TapState) : (s.targetGoTo dst).result = s.result := rfl
@[simp] theorem State.targetGoTo_pt (dst : TapState) : (s.targetGoTo dst).pt = s.pt := rfl
@[simp] theorem State.targetGoTo_weIssued (dst : TapState) : (s.targetGoTo dst).weIssued = s.weIssued := rfl
@[simp] theorem State.targetGoTo_mustPoll (dst : TapState) : (s.targetGoTo dst).mustPoll = s.mustPoll := rfl
@[simp] theorem State.targetGoTo_hz (dst : TapState) : (s.targetGoTo dst).hz = s.hz := rfl
@[simp] theorem State.targetGoTo_cfg (dst : TapState) : (s.targetGoTo dst).cfg = s.cfg := rfl
@[simp] theorem State.targetGoTo_task (dst : TapState) : (s.targetGoTo dst).task = s.task := rfl
@[simp] theorem State.targetGoTo_inbox (dst : TapState) : (s.targetGoTo dst).inbox = s.inbox := rfl
@[simp] theorem State.targetGoTo_trace (dst : TapState) : (s.targetGoTo dst).trace = s.trace := rfl
@[simp] theorem State.targetGoTo_results (dst : TapState) : (s.targetGoTo dst).results = s.results := rfl
@[simp] theorem State.targetGoTo_orchLog (dst : TapState) : (s.targetGoTo dst).orchLog = s.orchLog := rfl
@[simp] theorem State.targetGoTo_script (dst : TapState) : (s.targetGoTo dst).script = s.script := rfl
@[simp] theorem State.targetGoTo_drawn (dst : TapState) : (s.targetGoTo dst).drawn = s.drawn := rfl
@[simp] theorem State.targetGoTo_target (dst : TapState) :
    (s.targetGoTo dst).target = s.target.map fun t => t.onGoTo s.cfg s.tap dst := rfl

/-! ## `targetShift` -/

@[simp] theorem State.targetShift_session (reg : Reg) (tx : List Byte) (exit : Bool) :
    (s.targetShift reg tx exit).session = s.session := rfl
@[simp] theorem State.targetShift_err (reg : Reg) (tx : List Byte) (exit : Bool) :
    (s.targetShift reg tx exit).err = s.err := rfl
@[simp] theorem State.targetShift_dev (reg : Reg) (tx : List Byte) (exit : Bool) :
    (s.targetShift reg tx exit).dev = s.dev := rfl
@[simp] theorem State.targetShift_tap (reg : Reg) (tx : List Byte) (exit : Bool) :
    (s.targetShift reg tx exit).tap = s.tap := rfl
@[simp] theorem State.targetShift_orch (reg : Reg) (tx : List Byte) (exit : Bool) :
    (s.targetShift reg tx exit).orch = s.orch := rfl
@[simp] theorem State.targetShift_rdOpen (reg : Reg) (tx : List Byte) (exit : Bool) :
    (s.targetShift reg tx exit).rdOpen = s.rdOpen := rfl
@[simp] theorem State.targetShift_burstOpen (reg : Reg) (tx : List Byte) (exit : Bool) :
    (s.targetShift reg tx exit).burstOpen = s.burstOpen := rfl
@[simp] theorem State.targetShift_rdyCount (reg : Reg) (tx : List Byte) (exit : Bool) :
    (s.targetShift reg tx exit).rdyCount = s.rdyCount := rfl
@[simp] theorem State.targetShift_result (reg : Reg) (tx : List Byte) (exit : Bool) :
    (s.targetShift reg tx exit).result = s.result := rfl
@[simp] theorem State.targetShift_pt (reg : Reg) (tx : List Byte) (exit : Bool) :
    (s.targetShift reg tx exit).pt = s.pt := rfl
@[simp] theorem State.targetShift_weIssued (reg : Reg) (tx : List Byte) (exit : Bool) :
    (s.targetShift reg tx exit).weIssued = s.weIssued := rfl
@[simp] theorem State.targetShift_mustPoll (reg : Reg) (tx : List Byte) (exit : Bool) :
    (s.targetShift reg tx exit).mustPoll = s.mustPoll := rfl
@[simp] theorem State.targetShift_hz (reg : Reg) (tx : List Byte) (exit : Bool) :
    (s.targetShift reg tx exit).hz = s.hz := rfl
@[simp] theorem State.targetShift_cfg (reg : Reg) (tx : List Byte) (exit : Bool) :
    (s.targetShift reg tx exit).cfg = s.cfg := rfl
@[simp] theorem State.targetShift_task (reg : Reg) (tx : List Byte) (exit : Bool) :
    (s.targetShift reg tx exit).task = s.task := rfl
@[simp] theorem State.targetShift_inbox (reg : Reg) (tx : List Byte) (exit : Bool) :
    (s.targetShift reg tx exit).inbox = s.inbox := rfl
@[simp] theorem State.targetShift_trace (reg : Reg) (tx : List Byte) (exit : Bool) :
    (s.targetShift reg tx exit).trace = s.trace := rfl
@[simp] theorem State.targetShift_results (reg : Reg) (tx : List Byte) (exit : Bool) :
    (s.targetShift reg tx exit).results = s.results := rfl
@[simp] theorem State.targetShift_orchLog (reg : Reg) (tx : List Byte) (exit : Bool) :
    (s.targetShift reg tx exit).orchLog = s.orchLog := rfl
@[simp] theorem State.targetShift_script (reg : Reg) (tx : List Byte) (exit : Bool) :
    (s.targetShift reg tx exit).script = s.script := rfl
@[simp] theorem State.targetShift_drawn (reg : Reg) (tx : List Byte) (exit : Bool) :
    (s.targetShift reg tx exit).drawn = s.drawn := rfl
@[simp] theorem State.targetShift_target (reg : Reg) (tx : List Byte) (exit : Bool) :
    (s.targetShift reg tx exit).target = s.target.map fun t => t.onShift s.cfg reg tx exit := rfl

/-! ## `arrive` -/

@[simp] theorem State.arrive_session (dst : TapState) : (s.arrive dst).session = s.session := rfl
@[simp] theorem State.arrive_err (dst : TapState) : (s.arrive dst).err = s.err := rfl
@[simp] theorem State.arrive_dev (dst : TapState) : (s.arrive dst).dev = s.dev := rfl
@[simp] theorem State.arrive_tap (dst : TapState) : (s.arrive dst).tap = dst := rfl
@[simp] theorem State.arrive_orch (dst : TapState) : (s.arrive dst).orch = s.orch := rfl
@[simp] theorem State.arrive_rdOpen (dst : TapState) :
    (s.arrive dst).rdOpen = (s.rdOpen && !endsDrStay s.tap dst) := rfl
@[simp] theorem State.arrive_burstOpen (dst : TapState) :
    (s.arrive dst).burstOpen = (s.burstOpen && !endsDrStay s.tap dst) := rfl
@[simp] theorem State.arrive_rdyCount (dst : TapState) : (s.arrive dst).rdyCount = s.rdyCount := rfl
@[simp] theorem State.arrive_result (dst : TapState) : (s.arrive dst).result = s.result := rfl
@[simp] theorem State.arrive_pt (dst : TapState) : (s.arrive dst).pt = s.pt := rfl
@[simp] theorem State.arrive_weIssued (dst : TapState) : (s.arrive dst).weIssued = s.weIssued := rfl
@[simp] theorem State.arrive_mustPoll (dst : TapState) : (s.arrive dst).mustPoll = s.mustPoll := rfl
@[simp] theorem State.arrive_hz (dst : TapState) : (s.arrive dst).hz = s.hz := rfl
@[simp] theorem State.arrive_cfg (dst : TapState) : (s.arrive dst).cfg = s.cfg := rfl
@[simp] theorem State.arrive_task (dst : TapState) : (s.arrive dst).task = s.task := rfl
@[simp] theorem State.arrive_inbox (dst : TapState) : (s.arrive dst).inbox = s.inbox := rfl
@[simp] theorem State.arrive_trace (dst : TapState) : (s.arrive dst).trace = s.trace := rfl
@[simp] theorem State.arrive_results (dst : TapState) : (s.arrive dst).results = s.results := rfl
@[simp] theorem State.arrive_orchLog (dst : TapState) : (s.arrive dst).orchLog = s.orchLog := rfl
@[simp] theorem State.arrive_script (dst : TapState) : (s.arrive dst).script = s.script := rfl
@[simp] theorem State.arrive_drawn (dst : TapState) : (s.arrive dst).drawn = s.drawn := rfl
@[simp] theorem State.arrive_target (dst : TapState) : (s.arrive dst).target = s.target := rfl

/-! ## `exitShift` -/

@[simp] theorem State.exitShift_session (reg : Reg) : (s.exitShift reg).session = s.session := by cases reg <;> rfl
@[simp] theorem State.exitShift_err (reg : Reg) : (s.exitShift reg).err = s.err := by cases reg <;> rfl
@[simp] theorem State.exitShift_dev (reg : Reg) : (s.exitShift reg).dev = s.dev := by cases reg <;> rfl
@[simp] theorem State.exitShift_tap (reg : Reg) : (s.exitShift reg).tap = exitState s.cfg reg := by cases reg <;> rfl
@[simp] theorem State.exitShift_orch (reg : Reg) : (s.exitShift reg).orch = s.orch := by cases reg <;> rfl
@[simp] theorem State.exitShift_rdOpen (reg : Reg) :
    (s.exitShift reg).rdOpen = (s.rdOpen && reg == .ir) := by cases reg <;> simp [State.exitShift]
@[simp] theorem State.exitShift_burstOpen (reg : Reg) :
    (s.exitShift reg).burstOpen = (s.burstOpen && reg == .ir) := by cases reg <;> simp [State.exitShift]
@[simp] theorem State.exitShift_rdyCount (reg : Reg) : (s.exitShift reg).rdyCount = s.rdyCount := by cases reg <;> rfl
@[simp] theorem State.exitShift_result (reg : Reg) : (s.exitShift reg).result = s.result := by cases reg <;> rfl
@[simp] theorem State.exitShift_pt (reg : Reg) : (s.exitShift reg).pt = s.pt := by cases reg <;> rfl
@[simp] theorem State.exitShift_weIssued (reg : Reg) : (s.exitShift reg).weIssued = s.weIssued := by cases reg <;> rfl
@[simp] theorem State.exitShift_mustPoll (reg : Reg) : (s.exitShift reg).mustPoll = s.mustPoll := by cases reg <;> rfl
@[simp] theorem State.exitShift_hz (reg : Reg) : (s.exitShift reg).hz = s.hz := by cases reg <;> rfl
@[simp] theorem State.exitShift_cfg (reg : Reg) : (s.exitShift reg).cfg = s.cfg := by cases reg <;> rfl
@[simp] theorem State.exitShift_task (reg : Reg) : (s.exitShift reg).task = s.task := by cases reg <;> rfl
@[simp] theorem State.exitShift_inbox (reg : Reg) : (s.exitShift reg).inbox = s.inbox := by cases reg <;> rfl
@[simp] theorem State.exitShift_trace (reg : Reg) : (s.exitShift reg).trace = s.trace := by cases reg <;> rfl
@[simp] theorem State.exitShift_results (reg : Reg) : (s.exitShift reg).results = s.results := by cases reg <;> rfl
@[simp] theorem State.exitShift_orchLog (reg : Reg) : (s.exitShift reg).orchLog = s.orchLog := by cases reg <;> rfl
@[simp] theorem State.exitShift_script (reg : Reg) : (s.exitShift reg).script = s.script := by cases reg <;> rfl
@[simp] theorem State.exitShift_drawn (reg : Reg) : (s.exitShift reg).drawn = s.drawn := by cases reg <;> rfl
@[simp] theorem State.exitShift_target (reg : Reg) : (s.exitShift reg).target = s.target := by cases reg <;> rfl

/-! ## `loseTarget` -/

@[simp] theorem State.loseTarget_session : (s.loseTarget).session = s.session := rfl
@[simp] theorem State.loseTarget_err : (s.loseTarget).err = s.err := rfl
@[simp] theorem State.loseTarget_dev : (s.loseTarget).dev = s.dev := rfl
@[simp] theorem State.loseTarget_tap : (s.loseTarget).tap = s.tap := rfl
@[simp] theorem State.loseTarget_orch : (s.loseTarget).orch = s.orch := rfl
@[simp] theorem State.loseTarget_rdOpen : (s.loseTarget).rdOpen = s.rdOpen := rfl
@[simp] theorem State.loseTarget_burstOpen : (s.loseTarget).burstOpen = s.burstOpen := rfl
@[simp] theorem State.loseTarget_rdyCount : (s.loseTarget).rdyCount = s.rdyCount := rfl
@[simp] theorem State.loseTarget_result : (s.loseTarget).result = s.result := rfl
@[simp] theorem State.loseTarget_pt : (s.loseTarget).pt = s.pt := rfl
@[simp] theorem State.loseTarget_weIssued : (s.loseTarget).weIssued = s.weIssued := rfl
@[simp] theorem State.loseTarget_mustPoll : (s.loseTarget).mustPoll = s.mustPoll := rfl
@[simp] theorem State.loseTarget_hz : (s.loseTarget).hz = s.hz := rfl
@[simp] theorem State.loseTarget_cfg : (s.loseTarget).cfg = s.cfg := rfl
@[simp] theorem State.loseTarget_task : (s.loseTarget).task = s.task := rfl
@[simp] theorem State.loseTarget_inbox : (s.loseTarget).inbox = s.inbox := rfl
@[simp] theorem State.loseTarget_trace : (s.loseTarget).trace = s.trace := rfl
@[simp] theorem State.loseTarget_results : (s.loseTarget).results = s.results := rfl
@[simp] theorem State.loseTarget_orchLog : (s.loseTarget).orchLog = s.orchLog := rfl
@[simp] theorem State.loseTarget_script : (s.loseTarget).script = s.script := rfl
@[simp] theorem State.loseTarget_drawn : (s.loseTarget).drawn = s.drawn := rfl
@[simp] theorem State.loseTarget_target : (s.loseTarget).target = none := rfl

/-! ## `mark` -/

@[simp] theorem State.mark_session (m : HazardMark) : (s.mark m).session = s.session := rfl
@[simp] theorem State.mark_err (m : HazardMark) : (s.mark m).err = s.err := rfl
@[simp] theorem State.mark_dev (m : HazardMark) : (s.mark m).dev = s.dev := rfl
@[simp] theorem State.mark_tap (m : HazardMark) : (s.mark m).tap = s.tap := rfl
@[simp] theorem State.mark_orch (m : HazardMark) : (s.mark m).orch = s.orch := rfl
@[simp] theorem State.mark_rdOpen (m : HazardMark) : (s.mark m).rdOpen = s.rdOpen := rfl
@[simp] theorem State.mark_burstOpen (m : HazardMark) : (s.mark m).burstOpen = s.burstOpen := rfl
@[simp] theorem State.mark_rdyCount (m : HazardMark) : (s.mark m).rdyCount = s.rdyCount := rfl
@[simp] theorem State.mark_result (m : HazardMark) : (s.mark m).result = s.result := rfl
@[simp] theorem State.mark_pt (m : HazardMark) : (s.mark m).pt = s.pt := rfl
@[simp] theorem State.mark_weIssued (m : HazardMark) : (s.mark m).weIssued = s.weIssued := rfl
@[simp] theorem State.mark_mustPoll (m : HazardMark) : (s.mark m).mustPoll = s.mustPoll := rfl
@[simp] theorem State.mark_hz (m : HazardMark) : (s.mark m).hz = s.hz.add m := rfl
@[simp] theorem State.mark_cfg (m : HazardMark) : (s.mark m).cfg = s.cfg := rfl
@[simp] theorem State.mark_task (m : HazardMark) : (s.mark m).task = s.task := rfl
@[simp] theorem State.mark_inbox (m : HazardMark) : (s.mark m).inbox = s.inbox := rfl
@[simp] theorem State.mark_trace (m : HazardMark) : (s.mark m).trace = s.trace := rfl
@[simp] theorem State.mark_results (m : HazardMark) : (s.mark m).results = s.results := rfl
@[simp] theorem State.mark_orchLog (m : HazardMark) : (s.mark m).orchLog = s.orchLog := rfl
@[simp] theorem State.mark_script (m : HazardMark) : (s.mark m).script = s.script := rfl
@[simp] theorem State.mark_drawn (m : HazardMark) : (s.mark m).drawn = s.drawn := rfl
@[simp] theorem State.mark_target (m : HazardMark) : (s.mark m).target = none := rfl

/-! ## `markIf` -/

@[simp] theorem State.markIf_session (b : Bool) (m : HazardMark) :
    (s.markIf b m).session = s.session := by cases b <;> rfl
@[simp] theorem State.markIf_err (b : Bool) (m : HazardMark) : (s.markIf b m).err = s.err := by cases b <;> rfl
@[simp] theorem State.markIf_dev (b : Bool) (m : HazardMark) : (s.markIf b m).dev = s.dev := by cases b <;> rfl
@[simp] theorem State.markIf_tap (b : Bool) (m : HazardMark) : (s.markIf b m).tap = s.tap := by cases b <;> rfl
@[simp] theorem State.markIf_orch (b : Bool) (m : HazardMark) : (s.markIf b m).orch = s.orch := by cases b <;> rfl
@[simp] theorem State.markIf_rdOpen (b : Bool) (m : HazardMark) : (s.markIf b m).rdOpen = s.rdOpen := by cases b <;> rfl
@[simp] theorem State.markIf_burstOpen (b : Bool) (m : HazardMark) :
    (s.markIf b m).burstOpen = s.burstOpen := by cases b <;> rfl
@[simp] theorem State.markIf_rdyCount (b : Bool) (m : HazardMark) :
    (s.markIf b m).rdyCount = s.rdyCount := by cases b <;> rfl
@[simp] theorem State.markIf_result (b : Bool) (m : HazardMark) : (s.markIf b m).result = s.result := by cases b <;> rfl
@[simp] theorem State.markIf_pt (b : Bool) (m : HazardMark) : (s.markIf b m).pt = s.pt := by cases b <;> rfl
@[simp] theorem State.markIf_weIssued (b : Bool) (m : HazardMark) :
    (s.markIf b m).weIssued = s.weIssued := by cases b <;> rfl
@[simp] theorem State.markIf_mustPoll (b : Bool) (m : HazardMark) :
    (s.markIf b m).mustPoll = s.mustPoll := by cases b <;> rfl
@[simp] theorem State.markIf_hz (b : Bool) (m : HazardMark) :
    (s.markIf b m).hz = if b then s.hz.add m else s.hz := by cases b <;> rfl
@[simp] theorem State.markIf_cfg (b : Bool) (m : HazardMark) : (s.markIf b m).cfg = s.cfg := by cases b <;> rfl
@[simp] theorem State.markIf_task (b : Bool) (m : HazardMark) : (s.markIf b m).task = s.task := by cases b <;> rfl
@[simp] theorem State.markIf_inbox (b : Bool) (m : HazardMark) : (s.markIf b m).inbox = s.inbox := by cases b <;> rfl
@[simp] theorem State.markIf_trace (b : Bool) (m : HazardMark) : (s.markIf b m).trace = s.trace := by cases b <;> rfl
@[simp] theorem State.markIf_results (b : Bool) (m : HazardMark) :
    (s.markIf b m).results = s.results := by cases b <;> rfl
@[simp] theorem State.markIf_orchLog (b : Bool) (m : HazardMark) :
    (s.markIf b m).orchLog = s.orchLog := by cases b <;> rfl
@[simp] theorem State.markIf_script (b : Bool) (m : HazardMark) : (s.markIf b m).script = s.script := by cases b <;> rfl
@[simp] theorem State.markIf_drawn (b : Bool) (m : HazardMark) : (s.markIf b m).drawn = s.drawn := by cases b <;> rfl
@[simp] theorem State.markIf_target (b : Bool) (m : HazardMark) :
    (s.markIf b m).target = if b then none else s.target := by cases b <;> rfl

/-! ## `flashHazards` -/

@[simp] theorem State.flashHazards_session (k : FlashKind) :
    (s.flashHazards k).session = s.session := by simp [State.flashHazards]
@[simp] theorem State.flashHazards_err (k : FlashKind) : (s.flashHazards k).err = s.err := by simp [State.flashHazards]
@[simp] theorem State.flashHazards_dev (k : FlashKind) : (s.flashHazards k).dev = s.dev := by simp [State.flashHazards]
@[simp] theorem State.flashHazards_tap (k : FlashKind) : (s.flashHazards k).tap = s.tap := by simp [State.flashHazards]
@[simp] theorem State.flashHazards_orch (k : FlashKind) :
    (s.flashHazards k).orch = s.orch := by simp [State.flashHazards]
@[simp] theorem State.flashHazards_rdOpen (k : FlashKind) :
    (s.flashHazards k).rdOpen = s.rdOpen := by simp [State.flashHazards]
@[simp] theorem State.flashHazards_burstOpen (k : FlashKind) :
    (s.flashHazards k).burstOpen = s.burstOpen := by simp [State.flashHazards]
@[simp] theorem State.flashHazards_rdyCount (k : FlashKind) :
    (s.flashHazards k).rdyCount = s.rdyCount := by simp [State.flashHazards]
@[simp] theorem State.flashHazards_result (k : FlashKind) :
    (s.flashHazards k).result = s.result := by simp [State.flashHazards]
@[simp] theorem State.flashHazards_pt (k : FlashKind) : (s.flashHazards k).pt = s.pt := by simp [State.flashHazards]
@[simp] theorem State.flashHazards_weIssued (k : FlashKind) :
    (s.flashHazards k).weIssued = s.weIssued := by simp [State.flashHazards]
@[simp] theorem State.flashHazards_mustPoll (k : FlashKind) :
    (s.flashHazards k).mustPoll = s.mustPoll := by simp [State.flashHazards]
@[simp] theorem State.flashHazards_cfg (k : FlashKind) : (s.flashHazards k).cfg = s.cfg := by simp [State.flashHazards]
@[simp] theorem State.flashHazards_task (k : FlashKind) :
    (s.flashHazards k).task = s.task := by simp [State.flashHazards]
@[simp] theorem State.flashHazards_inbox (k : FlashKind) :
    (s.flashHazards k).inbox = s.inbox := by simp [State.flashHazards]
@[simp] theorem State.flashHazards_trace (k : FlashKind) :
    (s.flashHazards k).trace = s.trace := by simp [State.flashHazards]
@[simp] theorem State.flashHazards_results (k : FlashKind) :
    (s.flashHazards k).results = s.results := by simp [State.flashHazards]
@[simp] theorem State.flashHazards_orchLog (k : FlashKind) :
    (s.flashHazards k).orchLog = s.orchLog := by simp [State.flashHazards]
@[simp] theorem State.flashHazards_script (k : FlashKind) :
    (s.flashHazards k).script = s.script := by simp [State.flashHazards]
@[simp] theorem State.flashHazards_drawn (k : FlashKind) :
    (s.flashHazards k).drawn = s.drawn := by simp [State.flashHazards]

/-! ## `writeEnableHazard` -/

@[simp] theorem State.writeEnableHazard_session :
    (s.writeEnableHazard).session = s.session := by simp [State.writeEnableHazard]
@[simp] theorem State.writeEnableHazard_err : (s.writeEnableHazard).err = s.err := by simp [State.writeEnableHazard]
@[simp] theorem State.writeEnableHazard_dev : (s.writeEnableHazard).dev = s.dev := by simp [State.writeEnableHazard]
@[simp] theorem State.writeEnableHazard_tap : (s.writeEnableHazard).tap = s.tap := by simp [State.writeEnableHazard]
@[simp] theorem State.writeEnableHazard_orch : (s.writeEnableHazard).orch = s.orch := by simp [State.writeEnableHazard]
@[simp] theorem State.writeEnableHazard_rdOpen :
    (s.writeEnableHazard).rdOpen = s.rdOpen := by simp [State.writeEnableHazard]
@[simp] theorem State.writeEnableHazard_burstOpen :
    (s.writeEnableHazard).burstOpen = s.burstOpen := by simp [State.writeEnableHazard]
@[simp] theorem State.writeEnableHazard_rdyCount :
    (s.writeEnableHazard).rdyCount = s.rdyCount := by simp [State.writeEnableHazard]
@[simp] theorem State.writeEnableHazard_result :
    (s.writeEnableHazard).result = s.result := by simp [State.writeEnableHazard]
@[simp] theorem State.writeEnableHazard_pt : (s.writeEnableHazard).pt = s.pt := by simp [State.writeEnableHazard]
@[simp] theorem State.writeEnableHazard_weIssued :
    (s.writeEnableHazard).weIssued = s.weIssued := by simp [State.writeEnableHazard]
@[simp] theorem State.writeEnableHazard_mustPoll :
    (s.writeEnableHazard).mustPoll = s.mustPoll := by simp [State.writeEnableHazard]
@[simp] theorem State.writeEnableHazard_hz :
    (s.writeEnableHazard).hz = if !s.weIssued then s.hz.add .noWriteEnable else s.hz := by simp [State.writeEnableHazard]
@[simp] theorem State.writeEnableHazard_cfg : (s.writeEnableHazard).cfg = s.cfg := by simp [State.writeEnableHazard]
@[simp] theorem State.writeEnableHazard_task : (s.writeEnableHazard).task = s.task := by simp [State.writeEnableHazard]
@[simp] theorem State.writeEnableHazard_inbox :
    (s.writeEnableHazard).inbox = s.inbox := by simp [State.writeEnableHazard]
@[simp] theorem State.writeEnableHazard_trace :
    (s.writeEnableHazard).trace = s.trace := by simp [State.writeEnableHazard]
@[simp] theorem State.writeEnableHazard_results :
    (s.writeEnableHazard).results = s.results := by simp [State.writeEnableHazard]
@[simp] theorem State.writeEnableHazard_orchLog :
    (s.writeEnableHazard).orchLog = s.orchLog := by simp [State.writeEnableHazard]
@[simp] theorem State.writeEnableHazard_script :
    (s.writeEnableHazard).script = s.script := by simp [State.writeEnableHazard]
@[simp] theorem State.writeEnableHazard_drawn :
    (s.writeEnableHazard).drawn = s.drawn := by simp [State.writeEnableHazard]
@[simp] theorem State.writeEnableHazard_target :
    (s.writeEnableHazard).target = if !s.weIssued then none else s.target := by simp [State.writeEnableHazard]

/-! ## `afterFrame` -/

@[simp] theorem State.afterFrame_session (n : FlashName) : (s.afterFrame n).session = s.session := by cases n <;> rfl
@[simp] theorem State.afterFrame_err (n : FlashName) : (s.afterFrame n).err = s.err := by cases n <;> rfl
@[simp] theorem State.afterFrame_dev (n : FlashName) : (s.afterFrame n).dev = s.dev := by cases n <;> rfl
@[simp] theorem State.afterFrame_tap (n : FlashName) : (s.afterFrame n).tap = s.tap := by cases n <;> rfl
@[simp] theorem State.afterFrame_orch (n : FlashName) : (s.afterFrame n).orch = s.orch := by cases n <;> rfl
@[simp] theorem State.afterFrame_rdOpen (n : FlashName) : (s.afterFrame n).rdOpen = s.rdOpen := by cases n <;> rfl
@[simp] theorem State.afterFrame_burstOpen (n : FlashName) :
    (s.afterFrame n).burstOpen = s.burstOpen := by cases n <;> rfl
@[simp] theorem State.afterFrame_rdyCount (n : FlashName) : (s.afterFrame n).rdyCount = s.rdyCount := by cases n <;> rfl
@[simp] theorem State.afterFrame_result (n : FlashName) : (s.afterFrame n).result = s.result := by cases n <;> rfl
@[simp] theorem State.afterFrame_pt (n : FlashName) : (s.afterFrame n).pt = s.pt := by cases n <;> rfl
@[simp] theorem State.afterFrame_hz (n : FlashName) : (s.afterFrame n).hz = s.hz := by cases n <;> rfl
@[simp] theorem State.afterFrame_cfg (n : FlashName) : (s.afterFrame n).cfg = s.cfg := by cases n <;> rfl
@[simp] theorem State.afterFrame_task (n : FlashName) : (s.afterFrame n).task = s.task := by cases n <;> rfl
@[simp] theorem State.afterFrame_inbox (n : FlashName) : (s.afterFrame n).inbox = s.inbox := by cases n <;> rfl
@[simp] theorem State.afterFrame_trace (n : FlashName) : (s.afterFrame n).trace = s.trace := by cases n <;> rfl
@[simp] theorem State.afterFrame_results (n : FlashName) : (s.afterFrame n).results = s.results := by cases n <;> rfl
@[simp] theorem State.afterFrame_orchLog (n : FlashName) : (s.afterFrame n).orchLog = s.orchLog := by cases n <;> rfl
@[simp] theorem State.afterFrame_script (n : FlashName) : (s.afterFrame n).script = s.script := by cases n <;> rfl
@[simp] theorem State.afterFrame_drawn (n : FlashName) : (s.afterFrame n).drawn = s.drawn := by cases n <;> rfl
@[simp] theorem State.afterFrame_target (n : FlashName) : (s.afterFrame n).target = s.target := by cases n <;> rfl

/-! ## `enterPhase` -/

@[simp] theorem State.enterPhase_session (o : OrchState) : (s.enterPhase o).session = s.session := rfl
@[simp] theorem State.enterPhase_err (o : OrchState) : (s.enterPhase o).err = s.err := rfl
@[simp] theorem State.enterPhase_dev (o : OrchState) : (s.enterPhase o).dev = s.dev := rfl
@[simp] theorem State.enterPhase_tap (o : OrchState) : (s.enterPhase o).tap = s.tap := rfl
@[simp] theorem State.enterPhase_orch (o : OrchState) : (s.enterPhase o).orch = o := rfl
@[simp] theorem State.enterPhase_rdOpen (o : OrchState) : (s.enterPhase o).rdOpen = s.rdOpen := rfl
@[simp] theorem State.enterPhase_burstOpen (o : OrchState) : (s.enterPhase o).burstOpen = s.burstOpen := rfl
@[simp] theorem State.enterPhase_rdyCount (o : OrchState) : (s.enterPhase o).rdyCount = s.rdyCount := rfl
@[simp] theorem State.enterPhase_result (o : OrchState) : (s.enterPhase o).result = s.result := rfl
@[simp] theorem State.enterPhase_pt (o : OrchState) : (s.enterPhase o).pt = s.pt := rfl
@[simp] theorem State.enterPhase_weIssued (o : OrchState) : (s.enterPhase o).weIssued = s.weIssued := rfl
@[simp] theorem State.enterPhase_mustPoll (o : OrchState) : (s.enterPhase o).mustPoll = s.mustPoll := rfl
@[simp] theorem State.enterPhase_hz (o : OrchState) : (s.enterPhase o).hz = s.hz := rfl
@[simp] theorem State.enterPhase_cfg (o : OrchState) : (s.enterPhase o).cfg = s.cfg := rfl
@[simp] theorem State.enterPhase_task (o : OrchState) : (s.enterPhase o).task = s.task := rfl
@[simp] theorem State.enterPhase_inbox (o : OrchState) : (s.enterPhase o).inbox = s.inbox := rfl
@[simp] theorem State.enterPhase_trace (o : OrchState) : (s.enterPhase o).trace = s.trace := rfl
@[simp] theorem State.enterPhase_results (o : OrchState) : (s.enterPhase o).results = s.results := rfl
@[simp] theorem State.enterPhase_orchLog (o : OrchState) : (s.enterPhase o).orchLog = s.orchLog ++ [o] := rfl
@[simp] theorem State.enterPhase_script (o : OrchState) : (s.enterPhase o).script = s.script := rfl
@[simp] theorem State.enterPhase_drawn (o : OrchState) : (s.enterPhase o).drawn = s.drawn := rfl
@[simp] theorem State.enterPhase_target (o : OrchState) : (s.enterPhase o).target = s.target := rfl

/-! ## `sessionReset` -/

@[simp] theorem State.sessionReset_session : (s.sessionReset).session = .closed := rfl
@[simp] theorem State.sessionReset_err : (s.sessionReset).err = false := rfl
@[simp] theorem State.sessionReset_dev : (s.sessionReset).dev = none := rfl
@[simp] theorem State.sessionReset_tap : (s.sessionReset).tap = Config.tapDraw s.drawn := rfl
@[simp] theorem State.sessionReset_orch : (s.sessionReset).orch = .idle := rfl
@[simp] theorem State.sessionReset_rdOpen : (s.sessionReset).rdOpen = false := rfl
@[simp] theorem State.sessionReset_burstOpen : (s.sessionReset).burstOpen = false := rfl
@[simp] theorem State.sessionReset_rdyCount : (s.sessionReset).rdyCount = 0 := rfl
@[simp] theorem State.sessionReset_result : (s.sessionReset).result = none := rfl
@[simp] theorem State.sessionReset_pt : (s.sessionReset).pt = false := rfl
@[simp] theorem State.sessionReset_weIssued : (s.sessionReset).weIssued = false := rfl
@[simp] theorem State.sessionReset_mustPoll : (s.sessionReset).mustPoll = false := rfl
@[simp] theorem State.sessionReset_hz : (s.sessionReset).hz = {} := rfl
@[simp] theorem State.sessionReset_cfg : (s.sessionReset).cfg = s.cfg := rfl
@[simp] theorem State.sessionReset_task : (s.sessionReset).task = s.task := rfl
@[simp] theorem State.sessionReset_inbox : (s.sessionReset).inbox = s.inbox := rfl
@[simp] theorem State.sessionReset_trace : (s.sessionReset).trace = s.trace := rfl
@[simp] theorem State.sessionReset_results : (s.sessionReset).results = s.results := rfl
@[simp] theorem State.sessionReset_orchLog : (s.sessionReset).orchLog = s.orchLog := rfl
@[simp] theorem State.sessionReset_script : (s.sessionReset).script = s.script := rfl
@[simp] theorem State.sessionReset_drawn : (s.sessionReset).drawn = s.drawn := rfl
@[simp] theorem State.sessionReset_target : (s.sessionReset).target = s.target := rfl

/-! ## `closePort` -/

@[simp] theorem State.closePort_session :
    (s.closePort).session = s.session := by unfold State.closePort; split <;> simp_all [State.emit, State.loseTarget]
@[simp] theorem State.closePort_err :
    (s.closePort).err = s.err := by unfold State.closePort; split <;> simp_all [State.emit, State.loseTarget]
@[simp] theorem State.closePort_dev :
    (s.closePort).dev = s.dev := by unfold State.closePort; split <;> simp_all [State.emit, State.loseTarget]
@[simp] theorem State.closePort_tap :
    (s.closePort).tap = s.tap := by unfold State.closePort; split <;> simp_all [State.emit, State.loseTarget]
@[simp] theorem State.closePort_orch :
    (s.closePort).orch = s.orch := by unfold State.closePort; split <;> simp_all [State.emit, State.loseTarget]
@[simp] theorem State.closePort_rdOpen :
    (s.closePort).rdOpen = s.rdOpen := by unfold State.closePort; split <;> simp_all [State.emit, State.loseTarget]
@[simp] theorem State.closePort_burstOpen :
    (s.closePort).burstOpen = s.burstOpen := by unfold State.closePort; split <;> simp_all [State.emit, State.loseTarget]
@[simp] theorem State.closePort_rdyCount :
    (s.closePort).rdyCount = s.rdyCount := by unfold State.closePort; split <;> simp_all [State.emit, State.loseTarget]
@[simp] theorem State.closePort_result :
    (s.closePort).result = s.result := by unfold State.closePort; split <;> simp_all [State.emit, State.loseTarget]
@[simp] theorem State.closePort_pt :
    (s.closePort).pt = s.pt := by unfold State.closePort; split <;> simp_all [State.emit, State.loseTarget]
@[simp] theorem State.closePort_weIssued :
    (s.closePort).weIssued = s.weIssued := by unfold State.closePort; split <;> simp_all [State.emit, State.loseTarget]
@[simp] theorem State.closePort_mustPoll :
    (s.closePort).mustPoll = s.mustPoll := by unfold State.closePort; split <;> simp_all [State.emit, State.loseTarget]
@[simp] theorem State.closePort_hz :
    (s.closePort).hz = s.hz := by unfold State.closePort; split <;> simp_all [State.emit, State.loseTarget]
@[simp] theorem State.closePort_cfg :
    (s.closePort).cfg = s.cfg := by unfold State.closePort; split <;> simp_all [State.emit, State.loseTarget]
@[simp] theorem State.closePort_task :
    (s.closePort).task = s.task := by unfold State.closePort; split <;> simp_all [State.emit, State.loseTarget]
@[simp] theorem State.closePort_inbox :
    (s.closePort).inbox = s.inbox := by unfold State.closePort; split <;> simp_all [State.emit, State.loseTarget]
@[simp] theorem State.closePort_trace :
    (s.closePort).trace = s.trace ++ [.closed] := by unfold State.closePort; split <;> simp_all [State.emit, State.loseTarget]
@[simp] theorem State.closePort_results :
    (s.closePort).results = s.results := by unfold State.closePort; split <;> simp_all [State.emit, State.loseTarget]
@[simp] theorem State.closePort_orchLog :
    (s.closePort).orchLog = s.orchLog := by unfold State.closePort; split <;> simp_all [State.emit, State.loseTarget]
@[simp] theorem State.closePort_script :
    (s.closePort).script = s.script := by unfold State.closePort; split <;> simp_all [State.emit, State.loseTarget]
@[simp] theorem State.closePort_drawn :
    (s.closePort).drawn = s.drawn := by unfold State.closePort; split <;> simp_all [State.emit, State.loseTarget]
@[simp] theorem State.closePort_target :
    (s.closePort).target = if s.tap = .shiftDr ∨ s.burstOpen = true then none else s.target := by unfold State.closePort; split <;> simp_all [State.emit, State.loseTarget]

/-! ## `closeIfOpen` -/

@[simp] theorem State.closeIfOpen_session :
    (s.closeIfOpen).session = s.session := by unfold State.closeIfOpen; split <;> simp_all
@[simp] theorem State.closeIfOpen_err : (s.closeIfOpen).err = s.err := by unfold State.closeIfOpen; split <;> simp_all
@[simp] theorem State.closeIfOpen_dev : (s.closeIfOpen).dev = s.dev := by unfold State.closeIfOpen; split <;> simp_all
@[simp] theorem State.closeIfOpen_tap : (s.closeIfOpen).tap = s.tap := by unfold State.closeIfOpen; split <;> simp_all
@[simp] theorem State.closeIfOpen_orch :
    (s.closeIfOpen).orch = s.orch := by unfold State.closeIfOpen; split <;> simp_all
@[simp] theorem State.closeIfOpen_rdOpen :
    (s.closeIfOpen).rdOpen = s.rdOpen := by unfold State.closeIfOpen; split <;> simp_all
@[simp] theorem State.closeIfOpen_burstOpen :
    (s.closeIfOpen).burstOpen = s.burstOpen := by unfold State.closeIfOpen; split <;> simp_all
@[simp] theorem State.closeIfOpen_rdyCount :
    (s.closeIfOpen).rdyCount = s.rdyCount := by unfold State.closeIfOpen; split <;> simp_all
@[simp] theorem State.closeIfOpen_result :
    (s.closeIfOpen).result = s.result := by unfold State.closeIfOpen; split <;> simp_all
@[simp] theorem State.closeIfOpen_pt : (s.closeIfOpen).pt = s.pt := by unfold State.closeIfOpen; split <;> simp_all
@[simp] theorem State.closeIfOpen_weIssued :
    (s.closeIfOpen).weIssued = s.weIssued := by unfold State.closeIfOpen; split <;> simp_all
@[simp] theorem State.closeIfOpen_mustPoll :
    (s.closeIfOpen).mustPoll = s.mustPoll := by unfold State.closeIfOpen; split <;> simp_all
@[simp] theorem State.closeIfOpen_hz : (s.closeIfOpen).hz = s.hz := by unfold State.closeIfOpen; split <;> simp_all
@[simp] theorem State.closeIfOpen_cfg : (s.closeIfOpen).cfg = s.cfg := by unfold State.closeIfOpen; split <;> simp_all
@[simp] theorem State.closeIfOpen_task :
    (s.closeIfOpen).task = s.task := by unfold State.closeIfOpen; split <;> simp_all
@[simp] theorem State.closeIfOpen_inbox :
    (s.closeIfOpen).inbox = s.inbox := by unfold State.closeIfOpen; split <;> simp_all
@[simp] theorem State.closeIfOpen_trace :
    (s.closeIfOpen).trace = s.trace ++ if s.session = .opened then [.closed] else [] := by unfold State.closeIfOpen; split <;> simp_all
@[simp] theorem State.closeIfOpen_results :
    (s.closeIfOpen).results = s.results := by unfold State.closeIfOpen; split <;> simp_all
@[simp] theorem State.closeIfOpen_orchLog :
    (s.closeIfOpen).orchLog = s.orchLog := by unfold State.closeIfOpen; split <;> simp_all
@[simp] theorem State.closeIfOpen_script :
    (s.closeIfOpen).script = s.script := by unfold State.closeIfOpen; split <;> simp_all
@[simp] theorem State.closeIfOpen_drawn :
    (s.closeIfOpen).drawn = s.drawn := by unfold State.closeIfOpen; split <;> simp_all
@[simp] theorem State.closeIfOpen_target :
    (s.closeIfOpen).target = if s.session = .opened ∧ (s.tap = .shiftDr ∨ s.burstOpen = true) then none else s.target := by unfold State.closeIfOpen; split <;> simp_all

/-! ## `saw` -/

@[simp] theorem State.saw_session (evs : List Event) (tap : TapState) (rd bo : Bool) :
    (s.saw evs tap rd bo).session = s.session := rfl
@[simp] theorem State.saw_err (evs : List Event) (tap : TapState) (rd bo : Bool) :
    (s.saw evs tap rd bo).err = s.err := rfl
@[simp] theorem State.saw_dev (evs : List Event) (tap : TapState) (rd bo : Bool) :
    (s.saw evs tap rd bo).dev = s.dev := rfl
@[simp] theorem State.saw_tap (evs : List Event) (tap : TapState) (rd bo : Bool) :
    (s.saw evs tap rd bo).tap = tap := rfl
@[simp] theorem State.saw_orch (evs : List Event) (tap : TapState) (rd bo : Bool) :
    (s.saw evs tap rd bo).orch = s.orch := rfl
@[simp] theorem State.saw_rdOpen (evs : List Event) (tap : TapState) (rd bo : Bool) :
    (s.saw evs tap rd bo).rdOpen = rd := rfl
@[simp] theorem State.saw_burstOpen (evs : List Event) (tap : TapState) (rd bo : Bool) :
    (s.saw evs tap rd bo).burstOpen = bo := rfl
@[simp] theorem State.saw_rdyCount (evs : List Event) (tap : TapState) (rd bo : Bool) :
    (s.saw evs tap rd bo).rdyCount = s.rdyCount := rfl
@[simp] theorem State.saw_result (evs : List Event) (tap : TapState) (rd bo : Bool) :
    (s.saw evs tap rd bo).result = s.result := rfl
@[simp] theorem State.saw_pt (evs : List Event) (tap : TapState) (rd bo : Bool) : (s.saw evs tap rd bo).pt = s.pt := rfl
@[simp] theorem State.saw_weIssued (evs : List Event) (tap : TapState) (rd bo : Bool) :
    (s.saw evs tap rd bo).weIssued = s.weIssued := rfl
@[simp] theorem State.saw_mustPoll (evs : List Event) (tap : TapState) (rd bo : Bool) :
    (s.saw evs tap rd bo).mustPoll = s.mustPoll := rfl
@[simp] theorem State.saw_hz (evs : List Event) (tap : TapState) (rd bo : Bool) : (s.saw evs tap rd bo).hz = s.hz := rfl
@[simp] theorem State.saw_cfg (evs : List Event) (tap : TapState) (rd bo : Bool) :
    (s.saw evs tap rd bo).cfg = s.cfg := rfl
@[simp] theorem State.saw_task (evs : List Event) (tap : TapState) (rd bo : Bool) :
    (s.saw evs tap rd bo).task = s.task := rfl
@[simp] theorem State.saw_inbox (evs : List Event) (tap : TapState) (rd bo : Bool) :
    (s.saw evs tap rd bo).inbox = s.inbox := rfl
@[simp] theorem State.saw_trace (evs : List Event) (tap : TapState) (rd bo : Bool) :
    (s.saw evs tap rd bo).trace = s.trace ++ evs := rfl
@[simp] theorem State.saw_results (evs : List Event) (tap : TapState) (rd bo : Bool) :
    (s.saw evs tap rd bo).results = s.results := rfl
@[simp] theorem State.saw_orchLog (evs : List Event) (tap : TapState) (rd bo : Bool) :
    (s.saw evs tap rd bo).orchLog = s.orchLog := rfl
@[simp] theorem State.saw_script (evs : List Event) (tap : TapState) (rd bo : Bool) :
    (s.saw evs tap rd bo).script = s.script.drop (answersOf evs) := rfl
@[simp] theorem State.saw_drawn (evs : List Event) (tap : TapState) (rd bo : Bool) :
    (s.saw evs tap rd bo).drawn = s.drawn + answersOf evs := rfl
@[simp] theorem State.saw_target (evs : List Event) (tap : TapState) (rd bo : Bool) :
    (s.saw evs tap rd bo).target = s.target.map fun t => t.replay s.cfg s.tap evs := rfl

/-! ## `withGhosts` -/

@[simp] theorem State.withGhosts_session (p w m : Bool) (h : HazardSet) :
    (s.withGhosts p w m h).session = s.session := rfl
@[simp] theorem State.withGhosts_err (p w m : Bool) (h : HazardSet) : (s.withGhosts p w m h).err = s.err := rfl
@[simp] theorem State.withGhosts_dev (p w m : Bool) (h : HazardSet) : (s.withGhosts p w m h).dev = s.dev := rfl
@[simp] theorem State.withGhosts_tap (p w m : Bool) (h : HazardSet) : (s.withGhosts p w m h).tap = s.tap := rfl
@[simp] theorem State.withGhosts_orch (p w m : Bool) (h : HazardSet) : (s.withGhosts p w m h).orch = s.orch := rfl
@[simp] theorem State.withGhosts_rdOpen (p w m : Bool) (h : HazardSet) : (s.withGhosts p w m h).rdOpen = s.rdOpen := rfl
@[simp] theorem State.withGhosts_burstOpen (p w m : Bool) (h : HazardSet) :
    (s.withGhosts p w m h).burstOpen = s.burstOpen := rfl
@[simp] theorem State.withGhosts_rdyCount (p w m : Bool) (h : HazardSet) :
    (s.withGhosts p w m h).rdyCount = s.rdyCount := rfl
@[simp] theorem State.withGhosts_result (p w m : Bool) (h : HazardSet) : (s.withGhosts p w m h).result = s.result := rfl
@[simp] theorem State.withGhosts_pt (p w m : Bool) (h : HazardSet) : (s.withGhosts p w m h).pt = p := rfl
@[simp] theorem State.withGhosts_weIssued (p w m : Bool) (h : HazardSet) : (s.withGhosts p w m h).weIssued = w := rfl
@[simp] theorem State.withGhosts_mustPoll (p w m : Bool) (h : HazardSet) : (s.withGhosts p w m h).mustPoll = m := rfl
@[simp] theorem State.withGhosts_hz (p w m : Bool) (h : HazardSet) : (s.withGhosts p w m h).hz = h := rfl
@[simp] theorem State.withGhosts_cfg (p w m : Bool) (h : HazardSet) : (s.withGhosts p w m h).cfg = s.cfg := rfl
@[simp] theorem State.withGhosts_task (p w m : Bool) (h : HazardSet) : (s.withGhosts p w m h).task = s.task := rfl
@[simp] theorem State.withGhosts_inbox (p w m : Bool) (h : HazardSet) : (s.withGhosts p w m h).inbox = s.inbox := rfl
@[simp] theorem State.withGhosts_trace (p w m : Bool) (h : HazardSet) : (s.withGhosts p w m h).trace = s.trace := rfl
@[simp] theorem State.withGhosts_results (p w m : Bool) (h : HazardSet) :
    (s.withGhosts p w m h).results = s.results := rfl
@[simp] theorem State.withGhosts_orchLog (p w m : Bool) (h : HazardSet) :
    (s.withGhosts p w m h).orchLog = s.orchLog := rfl
@[simp] theorem State.withGhosts_script (p w m : Bool) (h : HazardSet) : (s.withGhosts p w m h).script = s.script := rfl
@[simp] theorem State.withGhosts_drawn (p w m : Bool) (h : HazardSet) : (s.withGhosts p w m h).drawn = s.drawn := rfl
@[simp] theorem State.withGhosts_target (p w m : Bool) (h : HazardSet) : (s.withGhosts p w m h).target = s.target := rfl

end Sys2Proof.Machine
end

