-- ==== Sys2Proof/Laws/Bridge.lean ====
section
/-! SUPPORT. How a command in progress computes: what each connective of `Bridge` answers, and what `commit` makes of a
command's end. -/

namespace Sys2Proof.Machine

variable {α β : Type} (s : State)

theorem bind_run (x : Bridge α) (f : α → Bridge β) :
    (x >>= f) s = match x s with
      | .ok a t => f a t
      | .error e t => .error e t := by
  cases h : x s <;> simp [bind, EStateM.bind, h]

theorem map_run (f : α → β) (x : Bridge α) :
    (f <$> x) s = match x s with
      | .ok a t => .ok (f a) t
      | .error e t => .error e t := by
  cases h : x s <;> simp [Functor.map, EStateM.map, h]

theorem bind_of_ok {x : Bridge α} {a : α} {s t : State} (h : x s = .ok a t) (f : α → Bridge β) :
    (x >>= f) s = f a t := by rw [bind_run, h]

/-- The first part succeeds, and the rest gives the result. -/
theorem bind_trans {x : Bridge α} {f : α → Bridge β} {a : α} {s t : State} {r : EStateM.Result Stop State β}
    (h : x s = .ok a t) (k : f a t = r) : (x >>= f) s = r := (bind_of_ok h f).trans k

/-- The first two parts succeed, and the rest gives the result. -/
theorem bind_trans₂ {γ : Type} {x : Bridge γ} {y : γ → Bridge α} {f : α → Bridge β} {a : α} {s t : State}
    {r : EStateM.Result Stop State β} (h : (x >>= y) s = .ok a t) (k : f a t = r) :
    (x >>= fun c => y c >>= f) s = r := by
  rw [← k, ← bind_of_ok h f]
  simp only [bind_run]
  rcases x s <;> rfl

theorem bind_of_error {x : Bridge α} {e : Stop} {s t : State} (h : x s = .error e t) (f : α → Bridge β) :
    (x >>= f) s = .error e t := by rw [bind_run, h]

/-- A sequence that succeeds: its first part succeeds, and then the rest. -/
theorem bind_eq_ok {x : Bridge α} {f : α → Bridge β} {s t : State} {b : β} :
    (x >>= f) s = .ok b t ↔ ∃ a u, x s = .ok a u ∧ f a u = .ok b t := by
  rw [bind_run]
  rcases h : x s with ⟨a, u⟩ | ⟨e, u⟩
  · exact ⟨fun k => ⟨a, u, rfl, k⟩, fun ⟨_, _, k, l⟩ => by cases k; exact l⟩
  · simp

/-- A sequence that stops: in its first part, or in the rest. -/
theorem bind_eq_error {x : Bridge α} {f : α → Bridge β} {s t : State} {e : Stop} :
    (x >>= f) s = .error e t ↔ x s = .error e t ∨ ∃ a u, x s = .ok a u ∧ f a u = .error e t := by
  rw [bind_run]
  rcases h : x s with ⟨a, u⟩ | ⟨e, u⟩
  · exact ⟨fun k => .inr ⟨a, u, rfl, k⟩, fun k => by rcases k with k | ⟨_, _, k, l⟩ <;> cases k; exact l⟩
  · simp

@[simp] theorem pure_run (a : α) : (pure a : Bridge α) s = .ok a s := rfl
@[simp] theorem get_run : (get : Bridge State) s = .ok s s := rfl
@[simp] theorem modify_run (f : State → State) : (modify f : Bridge Unit) s = .ok () (f s) := rfl
@[simp] theorem throw_run (e : Stop) : (throw e : Bridge α) s = .error e s := rfl
@[simp] theorem raise_run (k : ResultKind) (r : Reason) : (raise k r : Bridge α) s = .error (.raise k r) s := rfl
@[simp] theorem refuse_run (r : Reason) : (refuse r : Bridge α) s = .error (.raise .refused r) s := rfl
@[simp] theorem commFailure_run (r : Reason) : (commFailure r : Bridge α) s = .error (.raise .commFailure r) s := rfl
@[simp] theorem done_run (d : ResultData) : done d s = .ok (.ended .ok d) s := rfl
@[simp] theorem tapState_run : tapState s = .ok s.tap s := rfl
@[simp] theorem delay_run (n : Nat) : delay n s = .ok () (s.emit (.delay n)) := rfl
@[simp] theorem enterPhase_run (o : OrchState) : enterPhase o s = .ok () (s.enterPhase o) := rfl

theorem ite_run (p : Prop) [Decidable p] (x y : Bridge α) : (if p then x else y) s = if p then x s else y s := by
  split <;> rfl

/-- A command that ends is answered. -/
theorem commit_ended {b : Bridge Flow} {s t : State} {k : ResultKind} {d : ResultData} (h : b s = .ok (.ended k d) t) :
    commit b s = .next (t.answer ⟨k, .none, d⟩) := by simp [commit, h]

/-- A command that ends is answered, in the form a statement gives its state. -/
theorem commit_of_ok {b : Bridge Flow} {s t u : State} {k : ResultKind} {d : ResultData} (h : b s = .ok (.ended k d) t)
    (hu : t.answer ⟨k, .none, d⟩ = u) : commit b s = .next u := by
  rw [← hu]
  exact commit_ended h

/-- A command that waits is answered later. -/
theorem commit_waiting {b : Bridge Flow} {s t : State} {w : Task} (h : b s = .ok (.waiting w) t) :
    commit b s = .next { t with task := some w } := by simp [commit, h]

/-- A command that waits, in the form a statement gives its state. -/
theorem commit_of_waiting {b : Bridge Flow} {s t u : State} {w : Task} (h : b s = .ok (.waiting w) t)
    (hu : { t with task := some w } = u) : commit b s = .next u := by
  rw [← hu]
  exact commit_waiting h

/-- A command that raises is answered with what it raised (60_exceptions.md R330). -/
theorem commit_raised {b : Bridge Flow} {s t : State} {k : ResultKind} {r : Reason} (h : b s = .error (.raise k r) t) :
    commit b s = .next (t.answer ⟨k, r, .none⟩) := by simp [commit, h]

/-- Everything a command can come to: an end, a wait, a raise, or an assertion that does not hold. -/
theorem commit_cases (b : Bridge Flow) (s : State) :
    (∃ k d t, b s = .ok (.ended k d) t ∧ commit b s = .next (t.answer ⟨k, .none, d⟩)) ∨
    (∃ w t, b s = .ok (.waiting w) t ∧ commit b s = .next { t with task := some w }) ∨
    (∃ k r t, b s = .error (.raise k r) t ∧ commit b s = .next (t.answer ⟨k, r, .none⟩)) ∨
    ∃ f t, b s = .error (.assert f) t ∧ commit b s = .fault f := by
  unfold commit
  rcases h : b s with ⟨_ | _, t⟩ | ⟨_ | _, t⟩
  · exact .inl ⟨_, _, _, rfl, rfl⟩
  · exact .inr (.inl ⟨_, _, rfl, rfl⟩)
  · exact .inr (.inr (.inl ⟨_, _, _, rfl, rfl⟩))
  · exact .inr (.inr (.inr ⟨_, _, rfl, rfl⟩))

end Sys2Proof.Machine
end

