-- ==== Sys2Proof/Laws/Config.lean ====
section
/-! SUPPORT. The reference parameters are well-formed whatever their open fields are (00_scope.md R6, R7), and what
well-formed parameters give. -/

namespace Sys2Proof

theorem ref_wfSizes : Cfg.ref.WfSizes := by
  refine ⟨?_, ?_, ?_, ?_, ?_, ?_, ?_, ?_, ?_, ?_, ?_, ?_, ?_, ?_, ?_, ?_, ?_⟩
  case refine_16 => exact Nat.le_add_left _ _
  all_goals decide

theorem ref_wfCodes : Cfg.ref.WfCodes := by decide

theorem ref_wfPinned : Cfg.ref.WfPinned := by decide

/-- `CfgRef` is well-formed (00_scope.md R7, 30_encoding.md R103, R104). -/
theorem ref_wf : Cfg.ref.Wf := ⟨ref_wfSizes, ref_wfCodes, ref_wfPinned⟩

/-- The TAP instruction register is eight bits long in both families (log 13). -/
theorem irLen_eq {c : Cfg} (h : c.Wf) (f : Family) : (c.fam f).irLen = 8 := by
  have h1 : c.famA.irLen = 8 := h.2.2.2.2.1
  have h2 : c.famA.irLen = c.famB.irLen := h.1.2.2.2.2.2.2.2.2.2.2.2.2.2.2.2.2
  cases f
  · exact h1
  · exact h1
  · exact h2 ▸ h1

/-- The unlock sequence has its length in both families (R258; log 13). -/
theorem unlock_length {c : Cfg} (h : c.Wf) (f : Family) : (c.fam f).unlock.length = c.unlockLen := by
  have h1 := h.2.2.2.2.2.1
  have h2 := h.2.2.2.2.2.2.1
  cases f
  · exact h1
  · exact h1
  · exact h2

/-- A status register is whole bytes wide in both families (R7). -/
theorem statusBits_dvd {c : Cfg} (h : c.Wf) (f : Family) : 8 ∣ (c.fam f).statusBits := by
  have h1 := h.1.2.2.2.2.2.2.2.2.2.2.1
  have h2 := h.1.2.2.2.2.2.2.2.2.2.2.2.1
  cases f
  · exact h1
  · exact h1
  · exact h2

/-- Looking an entry up by a key that tells the entries apart finds it. -/
theorem find_of_nodup {α : Type} {g : α → Byte} {l : List α} {x : α} (h : (l.map g).Nodup) (hx : x ∈ l) :
    (l.find? fun y => g y == g x) = some x := by
  induction l with
  | nil => cases hx
  | cons y ys ih =>
    rw [List.map_cons, List.nodup_cons] at h
    rcases List.mem_cons.mp hx with rfl | hx
    · simp
    · have : g y ≠ g x := fun e => h.1 (e ▸ List.mem_map_of_mem hx)
      rw [List.find?_cons_of_neg (by simpa using this)]
      exact ih h.2 hx

/-- The opcode of a name is decoded as that name when the opcodes are distinct (30_encoding.md R103). -/
theorem flashNameOf_get {c : Cfg} (h : c.WfCodes) (n : FlashName) : flashNameOf c (c.flashOps.get n) = some n :=
  find_of_nodup h.1 (by cases n <;> decide)

end Sys2Proof
end

