-- ==== Sys2Proof/Laws/Primitives.lean ====
section
/-! SUPPORT. What the TAP primitives can do (10_state.md R44 to R46), and what a state looks like after their events. -/

namespace Sys2Proof.Machine

/-! ## Events and the oracle -/

/-- Where the TAP is after some events. -/
def tapAfter (c : Cfg) : TapState → List Event → TapState
  | src, [] => src
  | _, .goTo dst :: es => tapAfter c dst es
  | src, .shift reg _ _ exit _ :: es => tapAfter c (if exit then exitState c reg else src) es
  | src, .settle _ :: es => tapAfter c src es
  | src, .delay _ :: es => tapAfter c src es
  | src, .opened _ :: es => tapAfter c src es
  | src, .closed :: es => tapAfter c src es

theorem tapAfter_append (c : Cfg) (src : TapState) (a b : List Event) :
    tapAfter c src (a ++ b) = tapAfter c (tapAfter c src a) b := by
  induction a generalizing src with
  | nil => rfl
  | cons e es ih => cases e <;> simp [tapAfter, ih]

theorem replay_append (c : Cfg) (src : TapState) (a b : List Event) (t : Target) :
    t.replay c src (a ++ b) = (t.replay c src a).replay c (tapAfter c src a) b := by
  induction a generalizing src t with
  | nil => rfl
  | cons e es ih => cases e <;> simp [tapAfter, Target.replay, ih]

@[simp] theorem answersOf_append (a b : List Event) : answersOf (a ++ b) = answersOf a + answersOf b := by
  induction a with
  | nil => simp [answersOf]
  | cons e es ih => cases e <;> simp [answersOf, ih] <;> omega

theorem answersOf_goTos (src dst : TapState) : answersOf (goTos src dst) ≤ 1 := by
  unfold goTos; split <;> simp [answersOf]

theorem tapAfter_goTos (c : Cfg) (src dst : TapState) : tapAfter c src (goTos src dst) = dst := by
  unfold goTos; split <;> simp_all [tapAfter]

theorem okFor_mono {s : State} {m n : Nat} (h : s.OkFor n) (hm : m ≤ n) : s.OkFor m :=
  h.imp id fun k j hj => k j (by omega)

theorem driverOk_of_okFor {s : State} {n : Nat} (h : s.OkFor n) (hn : 0 < n) : s.driverOk = true := by
  rcases h with h | h
  · simp [State.driverOk, h]
  · simp [State.driverOk, State.nextAnswer, h 0 hn]

theorem rxAt_nil (s : State) (reg : Reg) (tx : List Byte) : s.rxAt [] reg tx = s.shiftRx reg tx := by
  unfold State.rxAt State.shiftRx State.rxOf State.offeredBytes
  cases s.target <;> simp [answersOf, Target.replay, State.nextAnswer]

/-! ## Moves -/

/-- Everything a move can do. -/
theorem tapGoTo_cases (dst : TapState) (s : State) :
    (s.err = true ∧ tapGoTo dst s = .error (.raise .commFailure .sticky) s) ∨
    (s.err = false ∧ s.tap = dst ∧ tapGoTo dst s = .ok () s) ∨
    (s.err = false ∧ s.tap ≠ dst ∧ s.driverOk = true ∧
      tapGoTo dst s = .ok () ((((s.emit (.goTo dst)).advance).targetGoTo dst).arrive dst)) ∨
    (s.err = false ∧ s.tap ≠ dst ∧ s.driverOk = false ∧
      tapGoTo dst s = .error (.raise .commFailure .transport) ((s.emit (.goTo dst)).advance).fail) := by
  unfold tapGoTo
  cases s.err <;> by_cases h : s.tap = dst <;> cases hd : s.driverOk <;> simp [h]

/-- A move that is answered Ok, or needs no answer. -/
theorem tapGoTo_ok {s : State} {n : Nat} (dst : TapState) (he : s.err = false) (hok : s.OkFor n) (hn : 0 < n) :
    tapGoTo dst s = .ok ()
      (s.saw (goTos s.tap dst) dst (s.rdOpen && survives s.tap dst) (s.burstOpen && survives s.tap dst)) := by
  unfold tapGoTo goTos survives
  by_cases h : s.tap = dst
  · subst h; cases s; simp_all [State.saw, answersOf, Target.replay]
  · have hb : (s.tap == dst) = false := by simp [h]
    simp [h, hb, he, driverOk_of_okFor hok hn, State.saw, answersOf, Target.replay, State.emit, State.advance, State.targetGoTo,
      State.arrive]

/-! ## Shifts -/

/-- Everything a shift can do. -/
theorem tapShift_cases (tx : List Byte) (n : Nat) (exit : Bool) (s : State) :
    (s.err = true ∧ tapShift tx n exit s = .error (.raise .commFailure .sticky) s) ∨
    (s.err = false ∧ shiftReg s.tap = none ∧ tapShift tx n exit s = .error (.assert .shiftOutsideShiftState) s) ∨
    (s.err = false ∧ (shiftReg s.tap).isSome ∧ ¬(n % 8 = 0 ∧ tx.length = n / 8) ∧
      tapShift tx n exit s = .error (.assert .shiftLengthMismatch) s) ∨
    (∃ reg, s.err = false ∧ shiftReg s.tap = some reg ∧ (n % 8 = 0 ∧ tx.length = n / 8) ∧ s.driverOk = true ∧
      tapShift tx n exit s = .ok (s.shiftRx reg tx)
        (let u := ((s.emit (.shift reg tx n exit (s.shiftRx reg tx))).advance).targetShift reg tx exit
         if exit then u.exitShift reg else u)) ∨
    (∃ reg, s.err = false ∧ shiftReg s.tap = some reg ∧ (n % 8 = 0 ∧ tx.length = n / 8) ∧ s.driverOk = false ∧
      tapShift tx n exit s = .error (.raise .commFailure .transport)
        ((s.emit (.shift reg tx n exit (s.shiftRx reg tx))).advance).fail) := by
  unfold tapShift
  cases he : s.err
  · cases hr : shiftReg s.tap with
    | none => simp
    | some reg =>
      by_cases hl : n % 8 = 0 ∧ tx.length = n / 8 <;> cases hd : s.driverOk <;> cases exit <;> simp [hl]
  · simp

/-- A DR shift of whole bytes that is answered Ok. -/
theorem tapShift_dr_ok {s : State} {m : Nat} (tx : List Byte) (n : Nat) (exit : Bool) (he : s.err = false)
    (hok : s.OkFor m) (hm : 0 < m) (ht : s.tap = .shiftDr) (hn : n = 8 * tx.length) :
    tapShift tx n exit s = .ok (s.rxAt [] .dr tx)
      (s.saw (s.shifted [] .dr tx exit) (if exit then exitState s.cfg .dr else .shiftDr) (s.rdOpen && !exit)
        (s.burstOpen && !exit)) := by
  subst hn
  have hr : shiftReg s.tap = some .dr := by rw [ht]; rfl
  have hd := driverOk_of_okFor hok hm
  unfold tapShift
  cases exit <;>
    simp [he, hr, hd, State.shifted, rxAt_nil, State.saw, answersOf, Target.replay, State.emit, State.advance,
      State.targetShift, State.exitShift]
  exact ht

/-- An IR shift of whole bytes that is answered Ok, the only kind the bridge makes: it exits. -/
theorem tapShift_ir_ok {s : State} {m : Nat} (tx : List Byte) (n : Nat) (he : s.err = false)
    (hok : s.OkFor m) (hm : 0 < m) (ht : s.tap = .shiftIr) (hn : n = 8 * tx.length) :
    tapShift tx n true s = .ok (s.rxAt [] .ir tx)
      (s.saw (s.shifted [] .ir tx true) (exitState s.cfg .ir) s.rdOpen s.burstOpen) := by
  subst hn
  have hr : shiftReg s.tap = some .ir := by rw [ht]; rfl
  unfold tapShift
  simp [he, hr, driverOk_of_okFor hok hm, State.shifted, rxAt_nil, State.saw, answersOf, Target.replay, State.emit,
    State.advance, State.targetShift, State.exitShift]

/-! ## Settles -/

/-- Everything a settle can do. -/
theorem tapSettle_cases (cycles : Nat) (s : State) :
    (s.err = true ∧ tapSettle cycles s = .error (.raise .commFailure .sticky) s) ∨
    (s.err = false ∧ s.tap ≠ .runTestIdle ∧ tapSettle cycles s = .error (.assert .settleOutsideIdle) s) ∨
    (s.err = false ∧ s.tap = .runTestIdle ∧ s.driverOk = true ∧
      tapSettle cycles s = .ok () (s.emit (.settle cycles)).advance) ∨
    (s.err = false ∧ s.tap = .runTestIdle ∧ s.driverOk = false ∧
      tapSettle cycles s = .error (.raise .commFailure .transport) ((s.emit (.settle cycles)).advance).fail) := by
  unfold tapSettle
  cases s.err <;> by_cases h : s.tap = .runTestIdle <;> cases hd : s.driverOk <;> simp [h]

/-- A settle in RUN_TEST_IDLE that is answered Ok. -/
theorem tapSettle_ok {s : State} {n : Nat} (cycles : Nat) (he : s.err = false) (hok : s.OkFor n) (hn : 0 < n)
    (ht : s.tap = .runTestIdle) :
    tapSettle cycles s = .ok () (s.saw [.settle cycles] s.tap s.rdOpen s.burstOpen) := by
  have hd := driverOk_of_okFor hok hn
  unfold tapSettle
  simp [he, ht, hd, State.saw, answersOf, Target.replay, State.emit, State.advance]

end Sys2Proof.Machine
end

