-- ==== Sys2Proof/Laws/Exchanges.lean ====
section
/-! SUPPORT. What the shared operations answer when the oracle answers Ok: the exchanges of 41_spi_bridge.md and
42_identity_status.md and the checks of R154. Each says what the state after it is, as `u.saw evs …`; `Follows` carries the
ports along a sequence of them. -/

namespace Sys2Proof.Machine

/-- `u` is a state the events lead to from `s`, as far as the ports, the parameters and the TAP are concerned. -/
structure Follows (u s : State) (evs : List Event) : Prop where
  trace : u.trace = s.trace ++ evs
  script : u.script = s.script.drop (answersOf evs)
  drawn : u.drawn = s.drawn + answersOf evs
  target : u.target = s.target.map fun t => t.replay s.cfg s.tap evs
  cfg : u.cfg = s.cfg
  tap : u.tap = tapAfter s.cfg s.tap evs

theorem Follows.refl (s : State) : Follows s s [] := by
  constructor <;> simp [answersOf, Target.replay, tapAfter]

/-- More events after some events. -/
theorem Follows.saw {u s : State} {a : List Event} (h : Follows u s a) (b : List Event) (t : TapState) (rd bo : Bool)
    (ht : t = tapAfter s.cfg u.tap b) : Follows (u.saw b t rd bo) s (a ++ b) := by
  have := h.tap
  constructor <;>
    simp_all [h.trace, h.script, h.drawn, h.target, h.cfg, replay_append, Function.comp_def, Nat.add_assoc,
      tapAfter_append]

/-- What a shift after more events receives. -/
theorem Follows.rxAt {u s : State} {a : List Event} (h : Follows u s a) (b : List Event) (reg : Reg) (tx : List Byte) :
    u.rxAt b reg tx = s.rxAt (a ++ b) reg tx := by
  unfold State.rxAt State.rxOf State.answerAt
  rw [h.target, h.script, h.drawn, h.cfg, h.tap]
  cases s.target <;> simp [replay_append, Nat.add_assoc]

theorem Follows.shifted {u s : State} {a : List Event} (h : Follows u s a) (b : List Event) (reg : Reg) (tx : List Byte)
    (exit : Bool) : a ++ u.shifted b reg tx exit = s.shifted (a ++ b) reg tx exit := by
  simp [State.shifted, h.rxAt]

theorem Follows.okFor {u s : State} {a : List Event} (h : Follows u s a) {n m : Nat} (hok : s.OkFor n)
    (hm : answersOf a + m ≤ n) : u.OkFor m := by
  rcases hok with k | k
  · exact .inl (by simpa [h.target] using k)
  · refine .inr fun j hj => ?_
    have := k (answersOf a + j) (by omega)
    simpa [State.answerAt, h.script, h.drawn, Nat.add_assoc] using this

/-- Two runs of events in a row. -/
theorem saw_saw (s : State) (a b : List Event) (t t' : TapState) (rd bo rd' bo' : Bool)
    (ht : t = tapAfter s.cfg s.tap a) : (s.saw a t rd bo).saw b t' rd' bo' = s.saw (a ++ b) t' rd' bo' := by
  subst ht
  simp [State.saw, replay_append, Function.comp_def, Nat.add_assoc]

@[simp] theorem revBuf_length (s : List Byte) : (revBuf s).length = s.length := by simp [revBuf]

theorem survives_shiftDr (src : TapState) : survives src .shiftDr = true := by cases src <;> rfl

theorem follows_move (s : State) (dst : TapState) (rd bo : Bool) :
    Follows (s.saw (goTos s.tap dst) dst rd bo) s (goTos s.tap dst) :=
  (Follows.refl s).saw _ _ _ _ (tapAfter_goTos _ _ _).symm

/-! ## One run of events after another -/

theorem follows_saw {s : State} {e : List Event} {t : TapState} {rd bo : Bool} (ht : t = tapAfter s.cfg s.tap e) :
    Follows (s.saw e t rd bo) s e := (Follows.refl s).saw e t rd bo ht

theorem shifted_saw {s : State} {e : List Event} {t : TapState} {rd bo : Bool} (ht : t = tapAfter s.cfg s.tap e)
    (e' : List Event) (reg : Reg) (tx : List Byte) (exit : Bool) :
    e ++ (s.saw e t rd bo).shifted e' reg tx exit = s.shifted (e ++ e') reg tx exit := (follows_saw ht).shifted _ _ _ _

theorem framed_saw {s : State} {e : List Event} {t : TapState} {rd bo : Bool} (ht : t = tapAfter s.cfg s.tap e)
    (frame : List Byte) (exit : Bool) : e ++ (s.saw e t rd bo).framed [] t frame exit = s.framed e t frame exit := by
  rw [State.framed, State.framed, shifted_saw ht]; simp

theorem loaded_saw {s : State} {e : List Event} {t : TapState} {rd bo : Bool} (ht : t = tapAfter s.cfg s.tap e)
    (code : Byte) : e ++ (s.saw e t rd bo).loaded [] t code = s.loaded e t code := by
  rw [State.loaded, State.loaded, shifted_saw ht]; simp

theorem rxAt_saw {s : State} {e : List Event} {t : TapState} {rd bo : Bool} (ht : t = tapAfter s.cfg s.tap e)
    (e' : List Event) (reg : Reg) (tx : List Byte) : (s.saw e t rd bo).rxAt e' reg tx = s.rxAt (e ++ e') reg tx :=
  (follows_saw ht).rxAt _ _ _

theorem spiRx_saw {s : State} {e : List Event} {t : TapState} {rd bo : Bool} (ht : t = tapAfter s.cfg s.tap e)
    (frame : List Byte) : (s.saw e t rd bo).spiRx [] t frame = s.spiRx e t frame := by
  rw [State.spiRx, State.spiRx, rxAt_saw ht]; simp

/-- Where an exchange leaves the TAP. -/
theorem tapAfter_framed {s : State} {e : List Event} {src : TapState} (frame : List Byte) (exit : Bool)
    (hs : src = tapAfter s.cfg s.tap e) :
    tapAfter s.cfg s.tap (s.framed e src frame exit) = if exit then exitState s.cfg .dr else .shiftDr := by
  subst hs
  simp [State.framed, State.shifted, tapAfter_append, tapAfter_goTos]
  cases exit <;> rfl

/-- Where a full exchange leaves the TAP. -/
theorem tapAfter_exchanged {s : State} {e : List Event} {src : TapState} (frame : List Byte)
    (hs : src = tapAfter s.cfg s.tap e) : tapAfter s.cfg s.tap (s.framed e src frame true) = exitState s.cfg .dr :=
  tapAfter_framed frame true hs

/-- Where a held exchange leaves the TAP. -/
theorem tapAfter_held {s : State} {e : List Event} {src : TapState} (frame : List Byte)
    (hs : src = tapAfter s.cfg s.tap e) : tapAfter s.cfg s.tap (s.framed e src frame false) = .shiftDr :=
  tapAfter_framed frame false hs

/-- Where loading a TAP instruction leaves the TAP. -/
theorem tapAfter_loaded (s : State) (e : List Event) (src : TapState) (code : Byte) :
    tapAfter s.cfg s.tap (s.loaded e src code) = exitState s.cfg .ir := by
  simp [State.loaded, State.shifted, tapAfter_append, tapAfter]

theorem answersOf_shifted (s : State) (e : List Event) (reg : Reg) (tx : List Byte) (exit : Bool) :
    answersOf (s.shifted e reg tx exit) = answersOf e + 1 := by simp [State.shifted, answersOf]

theorem answersOf_framed (s : State) (e : List Event) (src : TapState) (frame : List Byte) (exit : Bool) :
    answersOf (s.framed e src frame exit) ≤ answersOf e + 2 := by
  have := answersOf_goTos src .shiftDr
  simp [State.framed, answersOf_shifted]; omega

theorem answersOf_loaded (s : State) (e : List Event) (src : TapState) (code : Byte) :
    answersOf (s.loaded e src code) ≤ answersOf e + 2 := by
  have := answersOf_goTos src .shiftIr
  simp [State.loaded, answersOf_shifted]; omega

theorem okFor_saw {s : State} {e : List Event} {t : TapState} {rd bo : Bool} {n m : Nat} (h : s.OkFor n)
    (hm : answersOf e + m ≤ n) : (s.saw e t rd bo).OkFor m := by
  rcases h with h | h
  · exact .inl (by simpa using h)
  · refine .inr fun k hk => ?_
    have := h (answersOf e + k) (by omega)
    simpa [State.answerAt, Nat.add_assoc] using this

/-- The answers a state offers depend on its ports alone. -/
theorem okFor_congr {s u : State} {n : Nat} (h : s.OkFor n) (h1 : u.target = s.target) (h2 : u.script = s.script)
    (h3 : u.drawn = s.drawn) : u.OkFor n := by
  unfold State.OkFor State.answerAt at *
  rw [h1, h2, h3]
  exact h

/-! ## Ghost updates beside a run of events -/

/-- All that marks do: the marks, and the reference target they take off (10_state.md R40, 60_exceptions.md R334). -/
theorem flashHazards_eq (s : State) (k : FlashKind) :
    s.flashHazards k = { s with hz := (s.flashHazards k).hz, target := (s.flashHazards k).target } := by
  unfold State.flashHazards State.markIf State.mark State.loseTarget
  split <;> split <;> split <;> rfl

theorem writeEnableHazard_eq (s : State) :
    s.writeEnableHazard = { s with hz := s.writeEnableHazard.hz, target := s.writeEnableHazard.target } := by
  unfold State.writeEnableHazard State.markIf State.mark State.loseTarget
  split <;> rfl

/-- No mark, and nothing changes: in passthrough, outside SHIFT_DR, with no write pending or a command that polls. -/
theorem flashHazards_clean {s : State} {k : FlashKind} (hp : s.pt = true) (hm : s.mustPoll = false ∨ k = .poll)
    (ht : s.tap ≠ .shiftDr ∨ k = .contRead) : s.flashHazards k = s := by
  have h1 : (s.mustPoll && k != .poll) = false := by rcases hm with h | h <;> simp [h]
  have h2 : (k != .contRead && true && s.tap == .shiftDr) = false := by rcases ht with h | h <;> simp [h]
  rw [State.flashHazards, hp, h1, h2]
  rfl

/-- A write-enable was sent, and nothing changes. -/
theorem writeEnableHazard_clean {s : State} (h : s.weIssued = true) : s.writeEnableHazard = s := by
  simp [State.writeEnableHazard, State.markIf, h]

/-- Where the reference target is still known, no mark was raised. -/
theorem markIf_known {s : State} {b : Bool} {m : HazardMark} (h : (s.markIf b m).target.isSome = true) :
    s.markIf b m = s := by
  cases b
  · rfl
  · simp at h

theorem flashHazards_known {s : State} {k : FlashKind} (h : (s.flashHazards k).target.isSome = true) :
    s.flashHazards k = s := by
  unfold State.flashHazards at h ⊢
  have h1 := markIf_known h
  rw [h1] at h ⊢
  have h2 := markIf_known h
  rw [h2] at h ⊢
  exact markIf_known h

theorem writeEnableHazard_known {s : State} (h : s.writeEnableHazard.target.isSome = true) : s.writeEnableHazard = s :=
  markIf_known h

theorem afterFrame_saw (s : State) (e : List Event) (t : TapState) (rd bo : Bool) (n : FlashName) :
    (s.saw e t rd bo).afterFrame n = (s.afterFrame n).saw e t rd bo := by cases n <;> rfl

@[simp] theorem afterFrame_framed (s : State) (e : List Event) (t : TapState) (f : List Byte) (x : Bool) (n : FlashName) :
    (s.afterFrame n).framed e t f x = s.framed e t f x := by cases n <;> rfl

@[simp] theorem afterFrame_spiRx (s : State) (e : List Event) (t : TapState) (f : List Byte) (n : FlashName) :
    (s.afterFrame n).spiRx e t f = s.spiRx e t f := by cases n <;> rfl

/-! ## Exchanges -/

/-- A move into SHIFT_DR and a DR shift, from any state (10_state.md R44, R45). -/
theorem move_shift_dr_ok {s : State} {m : Nat} (tx : List Byte) (n : Nat) (exit : Bool) (he : s.err = false)
    (hok : s.OkFor m) (hm : answersOf (goTos s.tap .shiftDr) + 1 ≤ m) (hn : n = 8 * tx.length) :
    (tapGoTo .shiftDr >>= fun _ => tapShift tx n exit) s = .ok (s.rxAt (goTos s.tap .shiftDr) .dr tx)
      (s.saw (s.shifted (goTos s.tap .shiftDr) .dr tx exit) (if exit then exitState s.cfg .dr else .shiftDr)
        (s.rdOpen && !exit) (s.burstOpen && !exit)) := by
  have hF := follows_move s .shiftDr (s.rdOpen && survives s.tap .shiftDr) (s.burstOpen && survives s.tap .shiftDr)
  rw [bind_of_ok (tapGoTo_ok .shiftDr he hok (by omega)),
    tapShift_dr_ok tx n exit (by simpa using he) (hF.okFor hok hm) (by omega) (by simp) hn,
    hF.rxAt, saw_saw _ _ _ _ _ _ _ _ _ (tapAfter_goTos _ _ _).symm, hF.shifted]
  simp [survives_shiftDr]

/-- A full SPI transaction, or the end of a held one (41_spi_bridge.md R150). -/
theorem transactSPI_ok {s : State} {n : Nat} (frame : List Byte) (he : s.err = false) (hok : s.OkFor n)
    (hn : answersOf (goTos s.tap .shiftDr) + 1 ≤ n) (hf : frame ≠ []) :
    transactSPI frame s = .ok (s.spiRx [] s.tap frame)
      (s.saw (s.framed [] s.tap frame true) (exitState s.cfg .dr) false false) := by
  have h := move_shift_dr_ok (revBuf frame) (8 * frame.length) true he hok hn (by simp)
  have he' : frame.isEmpty = false := by simp [hf]
  have hs : transactSPI frame s = ((tapGoTo .shiftDr >>= fun _ => tapShift (revBuf frame) (8 * frame.length) true)
      >>= fun raw => pure (revBuf raw)) s := by
    by_cases k : s.tap = .shiftDr
    · have hg : tapGoTo .shiftDr s = .ok () s := by simp [tapGoTo, he, k]
      simp [transactSPI, assertFrame, hf, bind_run, map_run, k, hg]
    · simp only [transactSPI, assertFrame, he', bind_run, tapState_run, k, ite_true, ne_eq, not_false_eq_true, pure_run,
        Bool.false_eq_true, ite_false]
      rcases tapGoTo .shiftDr s <;> rfl
  rw [hs, bind_of_ok h]
  simp [State.spiRx, State.framed]

/-- A held SPI transaction, opened or continued (41_spi_bridge.md R151). -/
theorem streamSPI_ok {s : State} {n : Nat} (frame : List Byte) (he : s.err = false) (hok : s.OkFor n)
    (hn : answersOf (goTos s.tap .shiftDr) + 1 ≤ n) (hf : frame ≠ []) :
    streamSPI frame s = .ok (s.spiRx [] s.tap frame)
      (s.saw (s.framed [] s.tap frame false) .shiftDr s.rdOpen s.burstOpen) := by
  have h := move_shift_dr_ok (revBuf frame) (8 * frame.length) false he hok hn (by simp)
  have he' : frame.isEmpty = false := by simp [hf]
  have hs : streamSPI frame s = ((tapGoTo .shiftDr >>= fun _ => tapShift (revBuf frame) (8 * frame.length) false)
      >>= fun raw => pure (revBuf raw)) s := by
    simp only [streamSPI, assertFrame, he', bind_run, pure_run, Bool.false_eq_true, ite_false]
    rcases tapGoTo .shiftDr s <;> rfl
  rw [hs, bind_of_ok h]
  simp [State.spiRx, State.framed]

/-- Loading a TAP instruction (30_encoding.md R106, 44_config_sequencer.md R260). -/
theorem irLoad_ok {s : State} {n : Nat} (code : Byte) (he : s.err = false) (hok : s.OkFor n)
    (hn : answersOf (goTos s.tap .shiftIr) + 1 ≤ n) :
    irLoad code 8 s = .ok ()
      { s.saw (s.loaded [] s.tap code) (exitState s.cfg .ir) (s.rdOpen && survives s.tap .shiftIr)
          (s.burstOpen && survives s.tap .shiftIr) with pt := false } := by
  have hF := follows_move s .shiftIr (s.rdOpen && survives s.tap .shiftIr) (s.burstOpen && survives s.tap .shiftIr)
  unfold irLoad
  rw [bind_of_ok (tapGoTo_ok .shiftIr he hok (by omega)), bind_of_ok (tapShift_ir_ok [code] 8 (by simpa using he)
    (hF.okFor hok hn) (by omega) (by simp) (by simp)),
    saw_saw _ _ _ _ _ _ _ _ _ (tapAfter_goTos _ _ _).symm, hF.shifted]
  simp [State.loaded]

/-- The raw read of a data register (30_encoding.md R106, T_ID and T_ST). -/
theorem drRead_ok {s : State} {n : Nat} (bits : Nat) (he : s.err = false) (hok : s.OkFor n)
    (hn : answersOf (goTos s.tap .shiftDr) + 1 ≤ n) (hb : 8 ∣ bits) :
    drRead bits s = .ok (s.rxAt (goTos s.tap .shiftDr) .dr (List.replicate (bits / 8) 0))
      (s.saw (s.shifted (goTos s.tap .shiftDr) .dr (List.replicate (bits / 8) 0) true) (exitState s.cfg .dr) false
        false) := by
  have h := move_shift_dr_ok (List.replicate (bits / 8) 0) bits true he hok hn (by simp; omega)
  unfold drRead
  rw [h]; simp

/-! ## Checks -/

/-- The common checks pass (41_spi_bridge.md R154). -/
theorem checks_ok {s : State} (h : s.Ready) : checks true s = .ok () s := by
  simp [checks, checkSession, require, checkSticky, bind_run, h.1, h.2]

/-- The prologue of a flash command passes (43_flash_commands.md R200). -/
theorem flashPrologue_ok {s : State} (k : FlashKind) (h : s.Ready) (hk : k ≠ .contRead ∨ s.rdOpen = true) :
    flashPrologue k true s = .ok () (s.flashHazards k) := by
  have hc : (k != .contRead || s.rdOpen) = true := by rcases hk with hk | hk <;> simp [hk]
  simp only [flashPrologue, bind_of_ok (checks_ok h), bind_run, get_run, hc, require, ite_true, pure_run, modify_run]

/-- The family of an identified device (44_config_sequencer.md R259). -/
theorem cfgFamily_ok {s : State} {f : Family} (h : s.knownFamily = some f) : cfgFamily s = .ok f s := by
  unfold State.knownFamily at h
  simp only [cfgFamily, bind_run, get_run]
  cases hd : s.dev with
  | none => simp [hd] at h
  | some d =>
    simp only [hd] at h ⊢
    split at h
    · rename_i hu
      cases hp : s.cfg.unknownPolicy <;> simp_all
    · rename_i hu
      simp_all

/-- A flash frame as a full transaction, with its ghost fields (43_flash_commands.md R223). -/
theorem sendFrame_ok {s : State} {m : Nat} (n : FlashName) (operands : List Byte) (he : s.err = false)
    (hok : s.OkFor m) (hm : answersOf (goTos s.tap .shiftDr) + 1 ≤ m) :
    sendFrame n operands s = .ok (s.spiRx [] s.tap (s.cfg.flashOps.get n :: operands))
      ((s.saw (s.framed [] s.tap (s.cfg.flashOps.get n :: operands) true) (exitState s.cfg .dr) false false).afterFrame
        n) := by
  unfold sendFrame
  simp only [bind_run, get_run, transactSPI_ok _ he hok hm (List.cons_ne_nil _ _), modify_run, pure_run]

/-- A header frame, chip select held (30_encoding.md R105, S3H). -/
theorem sendHeader_ok {s : State} {m : Nat} (n : FlashName) (a : Addr) (he : s.err = false)
    (hok : s.OkFor m) (hm : answersOf (goTos s.tap .shiftDr) + 1 ≤ m) :
    sendHeader n a s = .ok ()
      (s.saw (s.framed [] s.tap (s.cfg.flashOps.get n :: be24 a) false) .shiftDr s.rdOpen s.burstOpen) := by
  unfold sendHeader
  simp only [bind_run, get_run, streamSPI_ok _ he hok hm (List.cons_ne_nil _ _), pure_run]

/-! ## Exchanges in a row

The same operations after the events `e`, from the state `s.saw e t rd bo`: a command is a row of these. -/

section
variable {s : State} {e : List Event} {t : TapState} {rd bo : Bool} {n : Nat}

theorem saw_nil (s : State) : s.saw [] s.tap s.rdOpen s.burstOpen = s := by
  cases s with | mk => simp [State.saw, answersOf, Target.replay]

theorem okFor_after {g : List Event} (hok : s.OkFor n) (hn : answersOf (e ++ g) + 1 ≤ n) :
    (s.saw e t rd bo).OkFor (answersOf g + 1) := okFor_saw hok (by simp at hn; omega)

theorem tapGoTo_saw (dst : TapState) (he : s.err = false) (hok : s.OkFor n) (hn : answersOf e + 1 ≤ n)
    (ht : t = tapAfter s.cfg s.tap e) :
    tapGoTo dst (s.saw e t rd bo) = .ok ()
      (s.saw (e ++ goTos t dst) dst (rd && survives t dst) (bo && survives t dst)) := by
  rw [tapGoTo_ok dst (by simpa using he) (okFor_saw hok hn) (by omega), saw_saw _ _ _ _ _ _ _ _ _ ht]
  simp

theorem tapSettle_saw (cycles : Nat) (he : s.err = false) (hok : s.OkFor n) (hn : answersOf e + 1 ≤ n)
    (ht : t = tapAfter s.cfg s.tap e) (hi : t = .runTestIdle) :
    tapSettle cycles (s.saw e t rd bo) = .ok () (s.saw (e ++ [.settle cycles]) t rd bo) := by
  rw [tapSettle_ok cycles (by simpa using he) (okFor_saw hok hn) (by omega) (by simpa using hi),
    saw_saw _ _ _ _ _ _ _ _ _ ht]
  simp

theorem transactSPI_saw (frame : List Byte) (he : s.err = false) (hok : s.OkFor n)
    (hn : answersOf (e ++ goTos t .shiftDr) + 1 ≤ n)
    (ht : t = tapAfter s.cfg s.tap e) (hf : frame ≠ []) :
    transactSPI frame (s.saw e t rd bo) = .ok (s.spiRx e t frame)
      (s.saw (s.framed e t frame true) (exitState s.cfg .dr) false false) := by
  rw [transactSPI_ok frame (by simpa using he) (okFor_after hok hn) (by simp) hf, State.saw_tap, spiRx_saw ht,
    saw_saw _ _ _ _ _ _ _ _ _ ht, framed_saw ht, State.saw_cfg]

theorem streamSPI_saw (frame : List Byte) (he : s.err = false) (hok : s.OkFor n)
    (hn : answersOf (e ++ goTos t .shiftDr) + 1 ≤ n)
    (ht : t = tapAfter s.cfg s.tap e) (hf : frame ≠ []) :
    streamSPI frame (s.saw e t rd bo) = .ok (s.spiRx e t frame) (s.saw (s.framed e t frame false) .shiftDr rd bo) := by
  rw [streamSPI_ok frame (by simpa using he) (okFor_after hok hn) (by simp) hf, State.saw_tap, spiRx_saw ht,
    saw_saw _ _ _ _ _ _ _ _ _ ht, framed_saw ht, State.saw_rdOpen, State.saw_burstOpen]

/-- A DR shift with an exit that follows a move into SHIFT_DR. -/
theorem move_shift_dr_saw (tx : List Byte) (m : Nat) (exit : Bool) (he : s.err = false) (hok : s.OkFor n)
    (hn : answersOf (e ++ goTos t .shiftDr) + 1 ≤ n) (ht : t = tapAfter s.cfg s.tap e) (hm : m = 8 * tx.length) :
    (tapGoTo .shiftDr >>= fun _ => tapShift tx m exit) (s.saw e t rd bo) =
      .ok (s.rxAt (e ++ goTos t .shiftDr) .dr tx)
        (s.saw (s.shifted (e ++ goTos t .shiftDr) .dr tx exit) (if exit then exitState s.cfg .dr else .shiftDr)
          (rd && !exit) (bo && !exit)) := by
  rw [move_shift_dr_ok tx m exit (by simpa using he) (okFor_after hok hn) (by simp) hm, State.saw_tap, rxAt_saw ht,
    saw_saw _ _ _ _ _ _ _ _ _ ht, shifted_saw ht, State.saw_cfg, State.saw_rdOpen, State.saw_burstOpen]

theorem irLoad_saw (code : Byte) (he : s.err = false) (hok : s.OkFor n)
    (hn : answersOf (e ++ goTos t .shiftIr) + 1 ≤ n)
    (ht : t = tapAfter s.cfg s.tap e) :
    irLoad code 8 (s.saw e t rd bo) = .ok ()
      (({ s with pt := false } : State).saw (s.loaded e t code) (exitState s.cfg .ir) (rd && survives t .shiftIr)
        (bo && survives t .shiftIr)) := by
  rw [irLoad_ok code (by simpa using he) (okFor_after hok hn) (by simp), State.saw_tap, saw_saw _ _ _ _ _ _ _ _ _ ht,
    loaded_saw ht, State.saw_cfg, State.saw_rdOpen, State.saw_burstOpen]
  rfl

theorem sendFrame_saw (k : FlashName) (operands : List Byte) (he : s.err = false) (hok : s.OkFor n)
    (hn : answersOf (e ++ goTos t .shiftDr) + 1 ≤ n) (ht : t = tapAfter s.cfg s.tap e) :
    sendFrame k operands (s.saw e t rd bo) = .ok (s.spiRx e t (s.cfg.flashOps.get k :: operands))
      ((s.afterFrame k).saw (s.framed e t (s.cfg.flashOps.get k :: operands) true) (exitState s.cfg .dr) false
        false) := by
  unfold sendFrame
  simp only [bind_run, get_run, State.saw_cfg, transactSPI_saw _ he hok hn ht (List.cons_ne_nil _ _), modify_run,
    pure_run, afterFrame_saw]

theorem sendHeader_saw (k : FlashName) (a : Addr) (he : s.err = false) (hok : s.OkFor n)
    (hn : answersOf (e ++ goTos t .shiftDr) + 1 ≤ n) (ht : t = tapAfter s.cfg s.tap e) :
    sendHeader k a (s.saw e t rd bo) = .ok ()
      (s.saw (s.framed e t (s.cfg.flashOps.get k :: be24 a) false) .shiftDr rd bo) := by
  unfold sendHeader
  simp only [bind_run, get_run, State.saw_cfg, streamSPI_saw _ he hok hn ht (List.cons_ne_nil _ _), pure_run]

end

end Sys2Proof.Machine
end

