-- ==== Sys2Proof/Laws/Flash.lean ====
section
/-! SUPPORT. What a poll of the busy wait can do (43_flash_commands.md R218), and what follows it. -/

namespace Sys2Proof.Machine

/-- A status-register write frame with its mark and its ghost fields (43_flash_commands.md R206, R223). -/
theorem sendRegisterWrite_ok {s m : State} {k : Nat} (n : FlashName) (v : Byte) (hs : m = s.writeEnableHazard)
    (he : m.err = false) (hok : m.OkFor k) (hk : answersOf (goTos m.tap .shiftDr) + 1 ≤ k) :
    sendRegisterWrite n v s = .ok ()
      ((m.afterFrame n).saw (m.framed [] m.tap [m.cfg.flashOps.get n, v] true) (exitState m.cfg .dr) false false) := by
  refine bind_trans (a := ()) (t := m) (by rw [modify_run, hs]) (bind_trans (sendFrame_ok n [v] he hok hk) ?_)
  rw [afterFrame_saw]
  rfl

/-- A page program: the header held, and the data, which ends it (43_flash_commands.md R214, R223). -/
theorem sendPage_saw {s : State} {e : List Event} {t : TapState} {rd bo : Bool} {n : Nat} (a : Addr) (data : List Byte)
    (he : s.err = false) (hok : s.OkFor n) (hn : answersOf (e ++ goTos t .shiftDr) + 2 ≤ n)
    (ht : t = tapAfter s.cfg s.tap e) (hd : data ≠ []) :
    sendPage a data (s.saw e t rd bo) = .ok ()
      (({ s with weIssued := false, mustPoll := true } : State).saw
        (s.framed (s.framed e t (s.cfg.flashOps.pp :: be24 a) false) .shiftDr data true) (exitState s.cfg .dr) false
        false) := by
  refine bind_trans (sendHeader_saw .pp a he hok (by omega) ht) ?_
  refine bind_trans (transactSPI_saw data he hok ?_ (tapAfter_held _ ht).symm hd) rfl
  simp only [State.framed, goTos, ite_true, List.append_nil, answersOf_shifted] at hn ⊢
  omega

/-- A poll whose frame was exchanged and that ends the wait. -/
theorem waitPoll_satisfied {s u : State} {rx : List Byte} (polls : Nat) (h : sendFrame .rdsr1 [0x00] s = .ok rx u)
    (hc : debounce u.rdyCount (!(registerByte rx).getLsbD u.cfg.busyBit) = u.cfg.readyDebounce) :
    waitPoll polls s = .ok (.satisfied (polls + 1)) { u with rdyCount := 0, mustPoll := false } := by
  simp only [waitPoll, h, if_pos hc]

/-- A poll whose frame was exchanged and after which the wait goes on. -/
theorem waitPoll_unsatisfied {s u : State} {rx : List Byte} (polls : Nat) (h : sendFrame .rdsr1 [0x00] s = .ok rx u)
    (hc : debounce u.rdyCount (!(registerByte rx).getLsbD u.cfg.busyBit) ≠ u.cfg.readyDebounce) :
    waitPoll polls s = .ok (.unsatisfied (polls + 1))
      ({ u with rdyCount := debounce u.rdyCount (!(registerByte rx).getLsbD u.cfg.busyBit) }.emit
        (.delay u.cfg.pollDelay)) := by
  simp only [waitPoll, h, if_neg hc]

/-- A poll whose frame failed (10_state.md R52: outside a wait the counter is 0). -/
theorem waitPoll_failed {s u : State} {e : Stop} (polls : Nat) (h : sendFrame .rdsr1 [0x00] s = .error e u) :
    waitPoll polls s = .error e { u with rdyCount := 0 } := by simp only [waitPoll, h]

/-- A wait goes on after an unsatisfied poll. -/
theorem waitRound_unsatisfied {s u : State} {polls n : Nat} (cmd : WaitCmd)
    (h : waitPoll polls s = .ok (.unsatisfied n) u) : waitRound cmd polls s = .ok (.waiting ⟨n, cmd, none⟩) u := by
  rw [waitRound, bind_of_ok h]
  rfl

/-- A wait ends with a satisfied poll, and the command goes on. -/
theorem waitRound_satisfied {s u : State} {polls n : Nat} (cmd : WaitCmd)
    (h : waitPoll polls s = .ok (.satisfied n) u) : waitRound cmd polls s = afterWait cmd n u := by
  rw [waitRound, bind_of_ok h]

/-- A failed poll ends the command. -/
theorem waitRound_failed {s u : State} {polls : Nat} {e : Stop} (cmd : WaitCmd) (h : waitPoll polls s = .error e u) :
    waitRound cmd polls s = .error e u := by
  rw [waitRound, bind_of_error h]

end Sys2Proof.Machine
end

