-- ==== Sys2Proof/Laws/Memory.lean ====
section
/-! SUPPORT. The flash memory of the reference target: every operation keeps the canonical form, what a read gives after a
write, an erase and a page program, and that equal contents are equal data (20_memory.md R84). -/

namespace Sys2Proof.Machine

variable {m : Memory} {a x : Nat} {v : Byte}

theorem Memory.wf_nil : Memory.Wf [] := ⟨.nil, by simp⟩

/-- A tail of a canonical memory is one. -/
theorem Memory.wf_tail {c : Host.Cell} (h : Memory.Wf (c :: m)) : Memory.Wf m :=
  ⟨(List.pairwise_cons.mp h.1).2, fun y hy => h.2 y (.tail _ hy)⟩

/-- Every cell a write leaves was there before, or is the one written. -/
theorem Memory.mem_write {c : Host.Cell} (h : c ∈ m.write a v) : c ∈ m ∨ c = (a, v) ∧ v ≠ erasedByte := by
  induction m with
  | nil =>
    simp only [Memory.write] at h
    split at h <;> simp_all
  | cons d rest ih =>
    obtain ⟨k, w⟩ := d
    simp only [Memory.write] at h
    by_cases h1 : a < k
    · rw [if_pos h1] at h
      split at h <;> simp_all
      rcases h with h | h | h <;> simp_all
    · rw [if_neg h1] at h
      by_cases h2 : a = k
      · rw [if_pos h2] at h
        split at h <;> simp_all
        rcases h with h | h <;> simp_all
      · rw [if_neg h2] at h
        rcases List.mem_cons.mp h with rfl | h
        · simp
        · rcases ih h with h | h <;> simp [h]

/-- A write keeps the canonical form. -/
theorem Memory.wf_write (h : m.Wf) (ha : a < flashSpace) : (m.write a v).Wf := by
  refine ⟨?_, fun c hc => ?_⟩
  · induction m with
    | nil =>
      simp only [Memory.write]
      split <;> simp
    | cons d rest ih =>
      obtain ⟨k, w⟩ := d
      have hp := List.pairwise_cons.mp h.1
      simp only [Memory.write]
      by_cases h1 : a < k
      · rw [if_pos h1]
        split
        · exact h.1
        · refine List.pairwise_cons.mpr ⟨fun y hy => ?_, h.1⟩
          rcases List.mem_cons.mp hy with rfl | hy
          · exact h1
          · exact Nat.lt_trans h1 (hp.1 y hy)
      · rw [if_neg h1]
        by_cases h2 : a = k
        · rw [if_pos h2]
          split
          · exact hp.2
          · exact List.pairwise_cons.mpr ⟨fun y hy => h2 ▸ hp.1 y hy, hp.2⟩
        · rw [if_neg h2]
          refine List.pairwise_cons.mpr ⟨fun y hy => ?_, ih (Memory.wf_tail h)⟩
          rcases Memory.mem_write hy with hy | ⟨rfl, -⟩
          · exact hp.1 y hy
          · show k < a
            omega
  · rcases Memory.mem_write hc with hc | ⟨rfl, hv⟩
    · exact h.2 c hc
    · exact ⟨ha, hv⟩

/-- An erase keeps the canonical form. -/
theorem Memory.wf_erase (h : m.Wf) (lo hi : Nat) : (m.erase lo hi).Wf :=
  ⟨h.1.filter _, fun c hc => h.2 c (List.mem_filter.mp hc).1⟩

/-- A page program keeps the canonical form. -/
theorem Memory.wf_program {page : Nat} (hp : page + 256 ≤ flashSpace) (ds : List Byte) :
    ∀ {m : Memory} (_ : m.Wf) (x : Nat), (Memory.program page m x ds).Wf := by
  induction ds with
  | nil => exact fun h _ => h
  | cons d ds ih => exact fun h x => ih (Memory.wf_write h (by omega)) (x + 1)

/-- An address below the cells of a memory reads as erased. -/
theorem Memory.read_of_lt (h : ∀ c ∈ m, a < c.1) : m.read a = erasedByte := by
  induction m with
  | nil => rfl
  | cons d rest ih =>
    have := h d (.head _)
    rw [Memory.read, if_neg (by omega)]
    exact ih fun c hc => h c (.tail _ hc)

/-- A read after a write to the same address gives the value written. -/
theorem Memory.read_write_same (h : m.Wf) : (m.write a v).read a = v := by
  induction m with
  | nil =>
    simp only [Memory.write]
    split <;> simp_all [Memory.read]
  | cons d rest ih =>
    obtain ⟨k, w⟩ := d
    have hp := List.pairwise_cons.mp h.1
    simp only [Memory.write]
    by_cases h1 : a < k
    · rw [if_pos h1]
      split
      · rename_i hv
        rw [hv]
        refine Memory.read_of_lt fun c hc => ?_
        rcases List.mem_cons.mp hc with rfl | hc
        · exact h1
        · exact Nat.lt_trans h1 (hp.1 c hc)
      · simp [Memory.read]
    · rw [if_neg h1]
      by_cases h2 : a = k
      · rw [if_pos h2]
        split
        · rename_i hv
          rw [hv]
          exact Memory.read_of_lt fun c hc => h2 ▸ hp.1 c hc
        · simp [Memory.read]
      · rw [if_neg h2, Memory.read, if_neg (Ne.symm h2)]
        exact ih (Memory.wf_tail h)

/-- A write leaves every other address alone. -/
theorem Memory.read_write_other (h : x ≠ a) : (m.write a v).read x = m.read x := by
  induction m with
  | nil =>
    simp only [Memory.write]
    split <;> simp [Memory.read, Ne.symm h]
  | cons d rest ih =>
    obtain ⟨k, w⟩ := d
    simp only [Memory.write]
    by_cases h1 : a < k
    · rw [if_pos h1]
      split <;> simp [Memory.read, Ne.symm h]
    · rw [if_neg h1]
      by_cases h2 : a = k
      · subst h2
        rw [if_pos rfl]
        split <;> simp [Memory.read, Ne.symm h]
      · rw [if_neg h2]
        simp [Memory.read, ih]

/-- What a read gives after an erase. -/
theorem Memory.read_erase (lo hi : Nat) :
    (m.erase lo hi).read x = if lo ≤ x ∧ x < hi then erasedByte else m.read x := by
  induction m with
  | nil => simp [Memory.erase, Memory.read]
  | cons d rest ih =>
    obtain ⟨k, w⟩ := d
    simp only [Memory.erase] at ih ⊢
    rw [List.filter_cons]
    by_cases hk : lo ≤ k ∧ k < hi
    · rw [if_neg (by simp [hk.1, hk.2]), ih]
      by_cases hx : lo ≤ x ∧ x < hi
      · simp [hx]
      · rw [if_neg hx, if_neg hx, Memory.read, if_neg]
        rintro rfl
        exact hx hk
    · have : (!(decide (lo ≤ k) && decide (k < hi))) = true := by
        simp only [Bool.not_eq_true', Bool.and_eq_false_iff, decide_eq_false_iff_not]
        omega
      rw [if_pos this, Memory.read, Memory.read, ih]
      by_cases hkx : k = x
      · subst hkx
        simp [hk]
      · simp [hkx]

/-- A page program leaves every address outside the ones it writes alone. -/
theorem Memory.read_program_other {page : Nat} (ds : List Byte) :
    ∀ (m : Memory) (s : Nat), (∀ i < ds.length, x ≠ page + (s + i) % 256) →
      (Memory.program page m s ds).read x = m.read x := by
  induction ds with
  | nil => exact fun _ _ _ => rfl
  | cons d ds ih =>
    intro m s h
    rw [Memory.program, ih _ _ fun i hi => by simpa [Nat.add_assoc, Nat.add_comm 1] using h (i + 1) (by simpa using hi)]
    exact Memory.read_write_other (by simpa using h 0 (by simp))

/-- A page program that does not wrap ANDs its data to the addresses one after another. -/
theorem Memory.read_program_at {page : Nat} (hp : page + 256 ≤ flashSpace) (ds : List Byte) :
    ∀ (m : Memory) (_ : m.Wf) (s i : Nat) (d : Byte), ds[i]? = some d → s % 256 + ds.length ≤ 256 →
      (Memory.program page m s ds).read (page + (s % 256 + i)) = m.read (page + (s % 256 + i)) &&& d := by
  induction ds with
  | nil => simp
  | cons e ds ih =>
    intro m hm s i d hi hl
    simp only [List.length_cons] at hl
    rw [Memory.program]
    have hw : (m.write (page + s % 256) (m.read (page + s % 256) &&& e)).Wf := Memory.wf_write hm (by omega)
    match i with
    | 0 =>
      simp only [List.getElem?_cons_zero, Option.some.injEq] at hi
      subst hi
      rw [Memory.read_program_other _ _ _ fun j hj => by omega]
      exact Memory.read_write_same hm
    | i + 1 =>
      have hi' : i < ds.length := by
        have := (List.getElem?_eq_some_iff.mp hi).1
        simpa using this
      have hs : (s + 1) % 256 = s % 256 + 1 := by omega
      have := ih _ hw (s + 1) i d (by simpa using hi) (by omega)
      rw [hs] at this
      rw [show s % 256 + (i + 1) = s % 256 + 1 + i by omega, this]
      rw [Memory.read_write_other (by omega)]

/-- Canonical memories that read alike are equal data. -/
theorem Memory.ext_read {n : Memory} (hm : m.Wf) (hn : n.Wf) (h : ∀ a, m.read a = n.read a) : m = n := by
  induction m generalizing n with
  | nil =>
    match n, hn with
    | [], _ => rfl
    | (k, w) :: rest, hn =>
      have := h k
      simp only [Memory.read, if_true] at this
      exact absurd this.symm (hn.2 (k, w) (.head _)).2
  | cons c rest ih =>
    obtain ⟨k, w⟩ := c
    have hp := List.pairwise_cons.mp hm.1
    match n, hn with
    | [], _ =>
      have := h k
      simp only [Memory.read, if_true] at this
      exact absurd this (hm.2 (k, w) (.head _)).2
    | (k', w') :: rest', hn =>
      have hp' := List.pairwise_cons.mp hn.1
      have hk : k = k' := by
        rcases Nat.lt_trichotomy k k' with hlt | heq | hgt
        · have := h k
          rw [Memory.read, if_pos rfl, Memory.read_of_lt (a := k) fun c hc => ?_] at this
          · exact absurd this (hm.2 (k, w) (.head _)).2
          · rcases List.mem_cons.mp hc with rfl | hc
            · exact hlt
            · exact Nat.lt_trans hlt (hp'.1 c hc)
        · exact heq
        · have := h k'
          rw [Memory.read_of_lt (a := k') fun c hc => ?_, Memory.read, if_pos rfl] at this
          · exact absurd this.symm (hn.2 (k', w') (.head _)).2
          · rcases List.mem_cons.mp hc with rfl | hc
            · exact hgt
            · exact Nat.lt_trans hgt (hp.1 c hc)
      subst hk
      have hw := h k
      simp only [Memory.read, if_true] at hw
      subst hw
      congr 1
      refine ih (Memory.wf_tail hm) (Memory.wf_tail hn) fun a => ?_
      by_cases ha : a = k
      · subst ha
        rw [Memory.read_of_lt fun c hc => hp.1 c hc, Memory.read_of_lt fun c hc => hp'.1 c hc]
      · simpa [Memory.read, Ne.symm ha] using h a

end Sys2Proof.Machine
end

