-- ==== Sys2Proof/Laws/PerInstr.lean ====
section
/-! SUPPORT. Per instruction: the reserved bits of a host command's header are 0 in the input the encoder writes
(30_encoding.md R100, R109), and every field its format does not read is 0. -/

namespace Sys2Proof.Laws

/-- The header of an input, if it is a host command, has its reserved bits 0, carries a listed CODE, and no field or operand
its format does not read. -/
def hostInputOk : Fetch → Prop
  | .host d =>
    hReservedLow d.header = 0 ∧ hReservedHigh d.header = 0 ∧
      ∃ r, hostRow (hCode d.header) = some r ∧ formatError r.format d = none
  | .spi _ => True
  | .tap _ => True

/-- A header as a number (30_encoding.md R100). -/
theorem mkHeader_toNat (code value : Byte) (gran : BitVec 2) (addr : Addr) : (mkHeader code value gran addr).toNat =
    code.toNat + 2 ^ 8 * value.toNat + 2 ^ 16 * gran.toNat + 2 ^ 24 * addr.toNat := by
  have h1 := code.isLt
  have h2 := value.isLt
  have h3 := gran.isLt
  have h4 := addr.isLt
  simp only [mkHeader, BitVec.toNat_append, BitVec.toNat_ofNat, Nat.zero_mod, Nat.zero_shiftLeft, Nat.zero_or]
  rw [← Nat.shiftLeft_add_eq_or_of_lt h1, ← Nat.shiftLeft_add_eq_or_of_lt h2, ← Nat.shiftLeft_add_eq_or_of_lt h3]
  rw [show addr.toNat <<< 6 ||| 0 = addr.toNat <<< 6 by simp]
  simp only [Nat.shiftLeft_eq]
  omega

/-- Each field of a header is the operand put there (30_encoding.md R100). -/
theorem mkHeader_fields (code value : Byte) (gran : BitVec 2) (addr : Addr) :
    hCode (mkHeader code value gran addr) = code ∧ hValue (mkHeader code value gran addr) = value ∧
    hGran (mkHeader code value gran addr) = gran ∧ hAddr (mkHeader code value gran addr) = addr ∧
    hReservedLow (mkHeader code value gran addr) = 0 ∧ hReservedHigh (mkHeader code value gran addr) = 0 := by
  have h1 := code.isLt
  have h2 := value.isLt
  have h3 := gran.isLt
  have h4 := addr.isLt
  refine ⟨?_, ?_, ?_, ?_, ?_, ?_⟩ <;> apply BitVec.eq_of_toNat_eq <;>
    simp only [hCode, hValue, hGran, hAddr, hReservedLow, hReservedHigh, BitVec.extractLsb'_toNat, mkHeader_toNat,
      Nat.shiftRight_eq_div_pow, show (0 : BitVec 6).toNat = 0 from rfl, show (0 : BitVec 16).toNat = 0 from rfl] <;> omega

/-- A header made for a row of the table is in order. -/
theorem hostInputOk_of {code value : Byte} {gran : BitVec 2} {addr : Addr} {len : Option Len} {data : List Byte} {r : HostRow}
    (h : hostRow code = some r) (hv : r.format.value = true ∨ value = 0) (hg : r.format.gran = true ∨ gran = 0)
    (ha : r.format.addr = true ∨ addr = 0) (hl : len.isSome = r.format.len) (hd : r.format.data = true ∨ data = []) :
    hostInputOk (.host ⟨mkHeader code value gran addr, len, data⟩) := by
  obtain ⟨h1, h2, h3, h4, h5, h6⟩ := mkHeader_fields code value gran addr
  refine ⟨h5, h6, r, by rw [h1]; exact h, ?_⟩
  simp only [formatError, h2, h3, h4, hl]
  rcases hv with hv | rfl <;> rcases hg with hg | rfl <;> rcases ha with ha | rfl <;> rcases hd with hd | rfl <;> simp [*]

end Sys2Proof.Laws

namespace Sys2Proof.Laws.ReservedZero

/-- The input of an instruction has its reserved and unread header bits 0. -/
def Statement (i : Instr) : Prop := ∀ (c : Cfg) (f : Family), hostInputOk (encode c f i)

theorem sessionOpen (sel : List Byte) : Statement (.sessionOpen sel) :=
  fun _ _ => hostInputOk_of rfl (.inr rfl) (.inr rfl) (.inr rfl) rfl (.inl rfl)
theorem sessionClose : Statement .sessionClose :=
  fun _ _ => hostInputOk_of rfl (.inr rfl) (.inr rfl) (.inr rfl) rfl (.inr rfl)
theorem spiXfer (data : List Byte) : Statement (.spiXfer data) :=
  fun _ _ => hostInputOk_of rfl (.inr rfl) (.inr rfl) (.inr rfl) rfl (.inl rfl)
theorem spiStream (data : List Byte) : Statement (.spiStream data) :=
  fun _ _ => hostInputOk_of rfl (.inr rfl) (.inr rfl) (.inr rfl) rfl (.inl rfl)
theorem spiEnd : Statement .spiEnd :=
  fun _ _ => hostInputOk_of rfl (.inr rfl) (.inr rfl) (.inr rfl) rfl (.inr rfl)
theorem readIdcode : Statement .readIdcode :=
  fun _ _ => hostInputOk_of rfl (.inr rfl) (.inr rfl) (.inr rfl) rfl (.inr rfl)
theorem readStatus : Statement .readStatus :=
  fun _ _ => hostInputOk_of rfl (.inr rfl) (.inr rfl) (.inr rfl) rfl (.inr rfl)
theorem fWren : Statement .fWren :=
  fun _ _ => hostInputOk_of rfl (.inr rfl) (.inr rfl) (.inr rfl) rfl (.inr rfl)
theorem fWrdi : Statement .fWrdi :=
  fun _ _ => hostInputOk_of rfl (.inr rfl) (.inr rfl) (.inr rfl) rfl (.inr rfl)
theorem fRdsr1 : Statement .fRdsr1 :=
  fun _ _ => hostInputOk_of rfl (.inr rfl) (.inr rfl) (.inr rfl) rfl (.inr rfl)
theorem fRdsr2 : Statement .fRdsr2 :=
  fun _ _ => hostInputOk_of rfl (.inr rfl) (.inr rfl) (.inr rfl) rfl (.inr rfl)
theorem fRdsr3 : Statement .fRdsr3 :=
  fun _ _ => hostInputOk_of rfl (.inr rfl) (.inr rfl) (.inr rfl) rfl (.inr rfl)
theorem fWrsr1 (value : Byte) : Statement (.fWrsr1 value) :=
  fun _ _ => hostInputOk_of rfl (.inl rfl) (.inr rfl) (.inr rfl) rfl (.inr rfl)
theorem fWrsr2 (value : Byte) : Statement (.fWrsr2 value) :=
  fun _ _ => hostInputOk_of rfl (.inl rfl) (.inr rfl) (.inr rfl) rfl (.inr rfl)
theorem fWrsr3 (value : Byte) : Statement (.fWrsr3 value) :=
  fun _ _ => hostInputOk_of rfl (.inl rfl) (.inr rfl) (.inr rfl) rfl (.inr rfl)
theorem fCe : Statement .fCe :=
  fun _ _ => hostInputOk_of rfl (.inr rfl) (.inr rfl) (.inr rfl) rfl (.inr rfl)
theorem fSe4k (addr : Addr) : Statement (.fSe4k addr) :=
  fun _ _ => hostInputOk_of rfl (.inr rfl) (.inr rfl) (.inl rfl) rfl (.inr rfl)
theorem fBe32k (addr : Addr) : Statement (.fBe32k addr) :=
  fun _ _ => hostInputOk_of rfl (.inr rfl) (.inr rfl) (.inl rfl) rfl (.inr rfl)
theorem fBe64k (addr : Addr) : Statement (.fBe64k addr) :=
  fun _ _ => hostInputOk_of rfl (.inr rfl) (.inr rfl) (.inl rfl) rfl (.inr rfl)
theorem fPp (addr : Addr) (data : List Byte) : Statement (.fPp addr data) :=
  fun _ _ => hostInputOk_of rfl (.inr rfl) (.inr rfl) (.inl rfl) rfl (.inl rfl)
theorem fRdid : Statement .fRdid :=
  fun _ _ => hostInputOk_of rfl (.inr rfl) (.inr rfl) (.inr rfl) rfl (.inr rfl)
theorem fRead (addr : Addr) : Statement (.fRead addr) :=
  fun _ _ => hostInputOk_of rfl (.inr rfl) (.inr rfl) (.inl rfl) rfl (.inr rfl)
theorem fContRead (len : Len) : Statement (.fContRead len) :=
  fun _ _ => hostInputOk_of rfl (.inr rfl) (.inr rfl) (.inr rfl) rfl (.inr rfl)
theorem fWait : Statement .fWait :=
  fun _ _ => hostInputOk_of rfl (.inr rfl) (.inr rfl) (.inr rfl) rfl (.inr rfl)
theorem fUnprotect : Statement .fUnprotect :=
  fun _ _ => hostInputOk_of rfl (.inr rfl) (.inr rfl) (.inr rfl) rfl (.inr rfl)
theorem fReset : Statement .fReset :=
  fun _ _ => hostInputOk_of rfl (.inr rfl) (.inr rfl) (.inr rfl) rfl (.inr rfl)
theorem cEnable : Statement .cEnable :=
  fun _ _ => hostInputOk_of rfl (.inr rfl) (.inr rfl) (.inr rfl) rfl (.inr rfl)
theorem cErase : Statement .cErase :=
  fun _ _ => hostInputOk_of rfl (.inr rfl) (.inr rfl) (.inr rfl) rfl (.inr rfl)
theorem cDisable : Statement .cDisable :=
  fun _ _ => hostInputOk_of rfl (.inr rfl) (.inr rfl) (.inr rfl) rfl (.inr rfl)
theorem cResetCrc : Statement .cResetCrc :=
  fun _ _ => hostInputOk_of rfl (.inr rfl) (.inr rfl) (.inr rfl) rfl (.inr rfl)
theorem cBurst : Statement .cBurst :=
  fun _ _ => hostInputOk_of rfl (.inr rfl) (.inr rfl) (.inr rfl) rfl (.inr rfl)
theorem cBurstData (data : List Byte) : Statement (.cBurstData data) :=
  fun _ _ => hostInputOk_of rfl (.inr rfl) (.inr rfl) (.inr rfl) rfl (.inl rfl)
theorem cRefresh : Statement .cRefresh :=
  fun _ _ => hostInputOk_of rfl (.inr rfl) (.inr rfl) (.inr rfl) rfl (.inr rfl)
theorem cPassthrough : Statement .cPassthrough :=
  fun _ _ => hostInputOk_of rfl (.inr rfl) (.inr rfl) (.inr rfl) rfl (.inr rfl)
theorem mIdentify : Statement .mIdentify :=
  fun _ _ => hostInputOk_of rfl (.inr rfl) (.inr rfl) (.inr rfl) rfl (.inr rfl)
theorem mProbe (opts : Byte) : Statement (.mProbe opts) :=
  fun _ _ => hostInputOk_of rfl (.inl rfl) (.inr rfl) (.inr rfl) rfl (.inr rfl)
theorem mLoadSram (data : List Byte) (opts : Byte) : Statement (.mLoadSram data opts) :=
  fun _ _ => hostInputOk_of rfl (.inl rfl) (.inr rfl) (.inr rfl) rfl (.inl rfl)
theorem mProgram (offset : Addr) (gran : BitVec 2) (data : List Byte) (opts : Byte) : Statement (.mProgram offset gran data opts) :=
  fun _ _ => hostInputOk_of rfl (.inl rfl) (.inl rfl) (.inl rfl) rfl (.inl rfl)
theorem mRead (offset : Addr) (len : Len) (opts : Byte) : Statement (.mRead offset len opts) :=
  fun _ _ => hostInputOk_of rfl (.inl rfl) (.inr rfl) (.inl rfl) rfl (.inr rfl)
theorem mErase (offset : Addr) (len : Len) (gran : BitVec 2) (opts : Byte) : Statement (.mErase offset len gran opts) :=
  fun _ _ => hostInputOk_of rfl (.inl rfl) (.inl rfl) (.inl rfl) rfl (.inr rfl)
theorem mVerify (offset : Addr) (data : List Byte) (opts : Byte) : Statement (.mVerify offset data opts) :=
  fun _ _ => hostInputOk_of rfl (.inl rfl) (.inr rfl) (.inl rfl) rfl (.inl rfl)
theorem opWren : Statement .opWren := fun _ _ => trivial
theorem opWrdi : Statement .opWrdi := fun _ _ => trivial
theorem opRdsr1 : Statement .opRdsr1 := fun _ _ => trivial
theorem opRdsr2 : Statement .opRdsr2 := fun _ _ => trivial
theorem opRdsr3 : Statement .opRdsr3 := fun _ _ => trivial
theorem opWrsr1 (value : Byte) : Statement (.opWrsr1 value) := fun _ _ => trivial
theorem opWrsr2 (value : Byte) : Statement (.opWrsr2 value) := fun _ _ => trivial
theorem opWrsr3 (value : Byte) : Statement (.opWrsr3 value) := fun _ _ => trivial
theorem opCe : Statement .opCe := fun _ _ => trivial
theorem opSe4k (addr : Addr) : Statement (.opSe4k addr) := fun _ _ => trivial
theorem opBe32k (addr : Addr) : Statement (.opBe32k addr) := fun _ _ => trivial
theorem opBe64k (addr : Addr) : Statement (.opBe64k addr) := fun _ _ => trivial
theorem opPp (addr : Addr) (data : List Byte) : Statement (.opPp addr data) := fun _ _ => trivial
theorem opRdid : Statement .opRdid := fun _ _ => trivial
theorem opFastRead : Statement .opFastRead := fun _ _ => trivial
theorem opRead (addr : Addr) (count : Nat) : Statement (.opRead addr count) := fun _ _ => trivial
theorem irIdcode : Statement .irIdcode := fun _ _ => trivial
theorem irStatus : Statement .irStatus := fun _ _ => trivial
theorem irEnable : Statement .irEnable := fun _ _ => trivial
theorem irErase : Statement .irErase := fun _ _ => trivial
theorem irDisable : Statement .irDisable := fun _ _ => trivial
theorem irResetCrc : Statement .irResetCrc := fun _ _ => trivial
theorem irBurst : Statement .irBurst := fun _ _ => trivial
theorem irRefresh : Statement .irRefresh := fun _ _ => trivial
theorem irPassthrough : Statement .irPassthrough := fun _ _ => trivial

end Sys2Proof.Laws.ReservedZero
end

