-- ==== Sys2Proof/Laws/Target.lean ====
section
/-! SUPPORT. The reference target (20_memory.md R84): whatever it sees, its flash keeps the canonical form; and a transaction
changes a flash byte only where it can store. -/

namespace Sys2Proof.Machine

/-- The page of a 24-bit address lies inside the flash. -/
theorem page_inside {a : Nat} (h : a < flashSpace) : roundDown a 256 + 256 ≤ flashSpace := by
  simp only [roundDown, flashSpace] at *
  omega

/-- The address of a frame is a 24-bit address. -/
theorem frameAddr_lt {args : List Byte} {a : Nat} (h : frameAddr args = some a) : a < flashSpace := by
  match args with
  | [] => simp [frameAddr] at h
  | [_] => simp [frameAddr] at h
  | [_, _] => simp [frameAddr] at h
  | x :: y :: z :: _ =>
    simp only [frameAddr, Option.some.injEq] at h
    subst h
    exact (ofBe24 x y z).isLt

/-- Everything a block erase can do. -/
theorem eraseBlock_cases (t : Target) (size : Nat) (args : List Byte) :
    t.eraseBlock size args = t ∨
    ∃ a, frameAddr args = some a ∧ t.wel = true ∧ t.eraseBlock size args =
      { t.clearWel with mem := t.mem.erase (roundDown a size) (roundDown a size + size), busyPolls := t.be } := by
  unfold Target.eraseBlock
  cases h : frameAddr args <;> cases hw : t.wel <;> simp

/-- A block erase keeps the canonical form. -/
theorem eraseBlock_wf {t : Target} (h : t.mem.Wf) (size : Nat) (args : List Byte) : (t.eraseBlock size args).mem.Wf := by
  rcases eraseBlock_cases t size args with e | ⟨a, -, -, e⟩ <;> rw [e]
  · exact h
  · exact Memory.wf_erase h _ _

/-- A transaction keeps the canonical form. -/
theorem flashEffect_wf {t : Target} (c : Cfg) (h : t.mem.Wf) (op : Byte) (args : List Byte) :
    (t.flashEffect c op args).mem.Wf := by
  unfold Target.flashEffect
  split
  · split <;> exact h
  split
  · exact h
  split
  · exact h
  split
  · cases args <;> simp only
    · exact h
    · split <;> exact h
  split
  · split
    · exact Memory.wf_nil
    · exact h
  split
  · exact eraseBlock_wf h _ _
  split
  · exact eraseBlock_wf h _ _
  split
  · exact eraseBlock_wf h _ _
  split
  · cases ha : frameAddr args with
    | none => exact h
    | some a =>
      simp only
      split
      · exact Memory.wf_program (page_inside (frameAddr_lt ha)) _ h _
      · exact h
  · exact h

/-- Leaving SHIFT_DR keeps the canonical form. -/
theorem leaveDr_wf {t : Target} (c : Cfg) (h : t.mem.Wf) : (t.leaveDr c).mem.Wf := by
  unfold Target.leaveDr
  cases t.mode
  · simp only
    split <;> exact h
  · cases revBuf t.frame with
    | nil => exact h
    | cons op args => exact flashEffect_wf c h op args

/-- A move keeps the canonical form. -/
theorem onGoTo_wf {t : Target} (c : Cfg) (h : t.mem.Wf) (src dst : TapState) : (t.onGoTo c src dst).mem.Wf := by
  unfold Target.onGoTo
  by_cases h1 : src = .shiftDr <;> by_cases h2 : dst = .shiftDr <;> simp only [h1, h2, if_true, if_false] <;>
    first | exact leaveDr_wf c h | exact h

/-- A shift keeps the canonical form. -/
theorem onShift_wf {t : Target} (c : Cfg) (h : t.mem.Wf) (reg : Reg) (tx : List Byte) (exit : Bool) :
    (t.onShift c reg tx exit).mem.Wf := by
  cases reg <;> cases exit
  · exact h
  · exact h
  · exact h
  · exact leaveDr_wf (t := { t with frame := t.frame ++ tx }) c h

/-- A sequence of events keeps the canonical form. -/
theorem replay_wf {t : Target} (c : Cfg) (h : t.mem.Wf) (src : TapState) (evs : List Event) :
    (t.replay c src evs).mem.Wf := by
  induction evs generalizing src t with
  | nil => exact h
  | cons e es ih =>
    cases e with
    | goTo dst => exact ih (onGoTo_wf c h _ _) _
    | shift reg tx n exit rx => exact ih (onShift_wf c h _ _ _) _
    | settle => exact ih h _
    | delay => exact ih h _
    | opened => exact ih h _
    | closed => exact ih h _

/-- The state at reset holds no memory that is not canonical: no target is attached. -/
theorem reset_mem_wf : ∀ t, State.reset.target = some t → t.mem.Wf := by
  intro t h
  cases h

end Sys2Proof.Machine
end

