-- ==== Sys2Proof/Machine/Assembly.lean ====
section
/-! DEFINITION. The textual form of a host command (30_encoding.md R115): one command a line, and the header a line stands for.
Nothing in the machine depends on it (92_eei_decisions.md D44). -/

namespace Sys2Proof

/-- The marks and words of a line. -/
inductive Token where
  | word (cs : List Char)
  | comma | openList | closeList | openSet | closeSet
  deriving DecidableEq, Repr

/-- The mark a character is, if it is one. Characters 123 and 125 are the curly brackets of an option set. -/
def markOf (ch : Char) : Option Token :=
  if ch = ',' then some .comma
  else if ch = '[' then some .openList
  else if ch = ']' then some .closeList
  else if ch = Char.ofNat 123 then some .openSet
  else if ch = Char.ofNat 125 then some .closeSet
  else none

/-- A word that has been read, if there is one, before the tokens that follow it. -/
def flushWord (acc : List Char) (rest : List Token) : List Token :=
  if acc.isEmpty then rest else .word acc.reverse :: rest

/-- The tokens of a line, up to its comment; the second argument holds the letters of the word being read, last one
first. -/
def tokenize : List Char → List Char → List Token
  | [], acc => flushWord acc []
  | ch :: cs, acc =>
    if ch = ';' then flushWord acc []
    else if ch = ' ' ∨ ch = '\t' then flushWord acc (tokenize cs [])
    else match markOf ch with
      | some t => flushWord acc (t :: tokenize cs [])
      | none => tokenize cs (ch :: acc)

/-- The value of a digit in a base. -/
def digitOf (base : Nat) (ch : Char) : Option Nat :=
  let n := ch.toNat
  let d := if 48 ≤ n ∧ n ≤ 57 then n - 48 else if 65 ≤ n ∧ n ≤ 70 then n - 55 else if 97 ≤ n ∧ n ≤ 102 then n - 87 else base
  if d < base then some d else none

/-- The value of a digit sequence, added to what came before it. -/
def digits (base : Nat) : List Char → Nat → Option Nat
  | [], v => some v
  | ch :: cs, v => (digitOf base ch).bind fun d => digits base cs (v * base + d)

/-- `number := decimal | "0x" hex`. -/
def numberOf : List Char → Option Nat
  | [] => none
  | '0' :: 'x' :: cs => if cs.isEmpty then none else digits 16 cs 0
  | cs => digits 10 cs 0

/-- `gran := "4K" | "32K" | "64K"`. -/
def granWord (cs : List Char) : Option Gran :=
  if cs = ['4', 'K'] then some .g4K else if cs = ['3', '2', 'K'] then some .g32K
  else if cs = ['6', '4', 'K'] then some .g64K else none

/-- The OPTS bit of an option's word (R108). -/
def optWord (cs : List Char) : Option Byte :=
  if cs = "refresh".toList then some 0x01 else if cs = "unprotect".toList then some 0x02
  else if cs = "bulk".toList then some 0x04 else if cs = "noerase".toList then some 0x08
  else if cs = "noverify".toList then some 0x10 else none

/-- An operand of a line (R115). -/
inductive TextOperand where
  | num (n : Nat)
  | bytes (bs : List Byte)
  | gran (g : Gran)
  | opts (o : Byte)
  deriving DecidableEq, Repr

/-- A number of at most one byte. -/
def byteOf (cs : List Char) : Option Byte :=
  (numberOf cs).bind fun n => if n < 256 then some (BitVec.ofNat 8 n) else none

/-- The bytes of a list, after its opening bracket, and the tokens behind it. The empty list, which 95_test_vectors.md
writes, is admitted too (log 22). -/
def takeBytes : List Token → Option (List Byte × List Token)
  | .closeList :: rest => some ([], rest)
  | .word w :: .closeList :: rest => (byteOf w).map fun b => ([b], rest)
  | .word w :: .comma :: rest => (byteOf w).bind fun b => (takeBytes rest).map fun r => (b :: r.1, r.2)
  | _ => none

/-- The options of a set, after its opening bracket, and the tokens behind it. -/
def takeOpts : List Token → Option (Byte × List Token)
  | .word w :: .closeSet :: rest => (optWord w).map fun o => (o, rest)
  | .word w :: .comma :: rest => (optWord w).bind fun o => (takeOpts rest).map fun r => (o ||| r.1, r.2)
  | _ => none

/-- One operand, and the tokens behind it. -/
def takeOperand : List Token → Option (TextOperand × List Token)
  | .openList :: rest => (takeBytes rest).map fun r => (.bytes r.1, r.2)
  | .openSet :: rest => (takeOpts rest).map fun r => (.opts r.1, r.2)
  | .word w :: rest =>
    match granWord w with
    | some g => some (.gran g, rest)
    | none => (numberOf w).map fun n => (.num n, rest)
  | _ => none

/-- The operands of a line, a comma between each two; the first argument bounds their number. -/
def takeOperands : Nat → List Token → Option (List TextOperand)
  | 0, _ => none
  | k + 1, ts =>
    (takeOperand ts).bind fun r =>
      match r.2 with
      | [] => some [r.1]
      | .comma :: rest => (takeOperands k rest).map fun os => r.1 :: os
      | _ => none

/-- An address operand fits 24 bits (R102). -/
def textAddr (n : Nat) : Option Addr := if n < 2 ^ 24 then some (BitVec.ofNat 24 n) else none

/-- A length operand fits 32 bits (R102). -/
def textLen (n : Nat) : Option Len := if n < 2 ^ 32 then some (BitVec.ofNat 32 n) else none

/-- A value operand fits 8 bits (R102). -/
def textValue (n : Nat) : Option Byte := if n < 256 then some (BitVec.ofNat 8 n) else none

/-- The operands with the OPTS they end in, 0 where the set is left out. -/
def splitOpts (os : List TextOperand) : List TextOperand × Byte :=
  match os.getLast? with
  | some (.opts o) => (os.dropLast, o)
  | _ => (os, 0)

/-- The commands without operands (Format H0). -/
def plainCommands : List (String × Instr) :=
  [("SESSION_CLOSE", .sessionClose), ("SPI_END", .spiEnd), ("READ_IDCODE", .readIdcode), ("READ_STATUS", .readStatus),
   ("F_WREN", .fWren), ("F_WRDI", .fWrdi), ("F_RDSR1", .fRdsr1), ("F_RDSR2", .fRdsr2), ("F_RDSR3", .fRdsr3),
   ("F_CE", .fCe), ("F_RDID", .fRdid), ("F_WAIT", .fWait), ("F_UNPROTECT", .fUnprotect), ("F_RESET", .fReset),
   ("C_ENABLE", .cEnable), ("C_ERASE", .cErase), ("C_DISABLE", .cDisable), ("C_RESET_CRC", .cResetCrc),
   ("C_BURST", .cBurst), ("C_REFRESH", .cRefresh), ("C_PASSTHROUGH", .cPassthrough), ("M_IDENTIFY", .mIdentify)]

/-- The commands whose one operand is DATA (Format D). -/
def dataCommands : List (String × (List Byte → Instr)) :=
  [("SESSION_OPEN", .sessionOpen), ("SPI_XFER", .spiXfer), ("SPI_STREAM", .spiStream), ("C_BURST_DATA", .cBurstData)]

/-- The commands whose one operand is a number: ADDR, VALUE or LEN (Formats A, V, N). -/
def numberCommands : List (String × (Nat → Option Instr)) :=
  [("F_SE4K", fun n => (textAddr n).map .fSe4k), ("F_BE32K", fun n => (textAddr n).map .fBe32k),
   ("F_BE64K", fun n => (textAddr n).map .fBe64k), ("F_READ", fun n => (textAddr n).map .fRead),
   ("F_WRSR1", fun n => (textValue n).map .fWrsr1), ("F_WRSR2", fun n => (textValue n).map .fWrsr2),
   ("F_WRSR3", fun n => (textValue n).map .fWrsr3), ("F_CONT_READ", fun n => (textLen n).map .fContRead)]

/-- The commands with several operands, in the order ADDR, VALUE, LEN, GRAN, DATA, OPTS (R115). -/
def buildMany (name : String) (os : List TextOperand) : Option Instr :=
  let r := splitOpts os
  if name = "F_PP" then
    match os with
    | [.num a, .bytes d] => (textAddr a).map fun a => .fPp a d
    | _ => none
  else if name = "M_PROBE" then (if r.1.isEmpty then some (.mProbe r.2) else none)
  else if name = "M_LOAD_SRAM" then
    match r.1 with
    | [.bytes d] => some (.mLoadSram d r.2)
    | _ => none
  else if name = "M_PROGRAM" then
    match r.1 with
    | [.num a, .gran g, .bytes d] => (textAddr a).map fun a => .mProgram a g.code d r.2
    | _ => none
  else if name = "M_READ" then
    match r.1 with
    | [.num a, .num n] => (textAddr a).bind fun a => (textLen n).map fun n => .mRead a n r.2
    | _ => none
  else if name = "M_ERASE" then
    match r.1 with
    | [.num a, .num n, .gran g] => (textAddr a).bind fun a => (textLen n).map fun n => .mErase a n g.code r.2
    | _ => none
  else if name = "M_VERIFY" then
    match r.1 with
    | [.num a, .bytes d] => (textAddr a).map fun a => .mVerify a d r.2
    | _ => none
  else none

/-- The command of a mnemonic with its operands (R101, R115). -/
def buildCommand (name : String) (os : List TextOperand) : Option Instr :=
  match os, plainCommands.find? (fun e => e.1 == name), dataCommands.find? (fun e => e.1 == name),
      numberCommands.find? (fun e => e.1 == name) with
  | [], some e, _, _ => some e.2
  | [.bytes d], _, some e, _ => some (e.2 d)
  | [.num n], _, _, some e => e.2 n
  | _, _, _, _ => buildMany name os

/-- The command a line stands for (R115). -/
def parseLine (line : List Char) : Option Instr :=
  match tokenize line [] with
  | [.word m] => buildCommand (String.ofList m) []
  | .word m :: rest => (takeOperands rest.length rest).bind fun os => buildCommand (String.ofList m) os
  | _ => none

end Sys2Proof
end

