-- ==== Sys2Proof/Tests/Slice0.lean ====
section
/-! SUPPORT. The model's own tests. Expected values come from spec/: "95 §x" is the table of 95_test_vectors.md they are
written from. The last part shows, for every statement with hypotheses, a state and operands that meet them. -/

open Sys2Proof Sys2Proof.Machine

namespace Sys2Proof.Tests

/-! ## Helpers -/

/-- `CfgRef` with numbers in place of its open fields. -/
def cfg : Cfg :=
  { Cfg.ref with
    settleCycles := 10
    pollDelay := 5
    maxXferBytes := 16384
    famB := { refFamB with idTable := [(0xABCD1234, "X")], statusDecode := [flagAt 8 "DONE"] } }

/-- The same with a very small bound on a transfer. -/
def tiny : Cfg := { cfg with maxXferBytes := 2 }

/-- An answer Ok with its received bytes. -/
def ok (rx : List Byte) : Answer := ⟨true, rx, .runTestIdle⟩

/-- An answer Fail. -/
def failed : Answer := ⟨false, [], .runTestIdle⟩

/-- An open session in RUN_TEST_IDLE, nothing identified, with many answers Ok to come. -/
def bus : State :=
  { State.reset with
    session := .opened
    tap := .runTestIdle
    cfg := cfg
    script := List.replicate 96 (ok (List.replicate 8 0)) }

/-- The device of 95 §1. -/
def device : DeviceInfo := ⟨.familyA, 0x41113043, "LFE5U-85"⟩

/-- The same with the device identified and passthrough entered. -/
def flash : State := { bus with dev := some device, pt := true }

/-- A state with the given answers to come. -/
def hearing (s : State) (script : List Answer) : State := { s with script := script }

/-- A reference target in passthrough, with the test parameters of 95 §1. -/
def chip : Target where
  mem := [(0x10FE, 0x11), (0x10FF, 0x22)]
  sr1 := 0x00
  sr2 := 0x00
  sr3 := 0x00
  busyPolls := 0
  mode := .passthrough
  ir := 0x3A
  frame := []
  family := .familyA
  idcode := 0x41113043
  status := 0x00000100
  jedec := [0xEF, 0x40, 0x18]
  bw := 1
  be := 1
  bp := 0

/-- An open session with that target. -/
def board : State := { flash with target := some chip, script := [] }

/-- An event without its received bytes. -/
def bare : Event → Event
  | .shift reg tx n exit _ => .shift reg tx n exit []
  | e => e

/-- The events of a step, their received bytes left out. -/
def sent : Host.Outcome State Fault Refusal → List Event
  | .next t => t.trace.map bare
  | .fault _ => []
  | .refused _ => []

/-- The results a step adds. -/
def answers : Host.Outcome State Fault Refusal → List Result
  | .next t => t.results
  | .fault _ => []
  | .refused _ => []

/-- A field of the next state. -/
def field {α : Type} (f : State → α) : Host.Outcome State Fault Refusal → Option α
  | .next t => some (f t)
  | .fault _ => none
  | .refused _ => none

/-- A full transaction from another TAP state. -/
def full (tx : List Byte) : List Event := [.goTo .shiftDr, .shift .dr tx (8 * tx.length) true []]

/-- A held transaction from another TAP state. -/
def held (tx : List Byte) : List Event := [.goTo .shiftDr, .shift .dr tx (8 * tx.length) false []]

/-- A TAP instruction. -/
def loads (code : Byte) : List Event := [.goTo .shiftIr, .shift .ir [code] 8 true []]

/-- The result OK. -/
def okNone : Result := okResult .none

/-! ## Well-formedness: an ill-formed term for each check -/

theorem test_wf_selector : ¬(Instr.sessionOpen [1, 2, 3]).WellFormed tiny := by decide
theorem test_wf_xfer_empty : ¬(Instr.spiXfer []).WellFormed cfg := by decide
theorem test_wf_xfer_long : ¬(Instr.spiXfer [1, 2, 3]).WellFormed tiny := by decide
theorem test_wf_stream : ¬(Instr.spiStream []).WellFormed cfg := by decide
theorem test_wf_page_cross : ¬(Instr.fPp 0x0000FF [0x11, 0x22]).WellFormed cfg := by decide
theorem test_wf_page_empty : ¬(Instr.fPp 0 []).WellFormed cfg := by decide
theorem test_wf_contRead : ¬(Instr.fContRead 0).WellFormed cfg := by decide
theorem test_wf_contRead_long : ¬(Instr.fContRead 16385).WellFormed cfg := by decide
theorem test_wf_burstData : ¬(Instr.cBurstData []).WellFormed cfg := by decide
theorem test_wf_probe_opts : ¬(Instr.mProbe 0x02).WellFormed cfg := by decide
theorem test_wf_loadSram_opts : ¬(Instr.mLoadSram [] 0x10).WellFormed cfg := by decide
theorem test_wf_program_bulk_noerase : ¬(Instr.mProgram 0 0 [] 0x0C).WellFormed cfg := by decide
theorem test_wf_program_reserved : ¬(Instr.mProgram 0 0 [] 0x20).WellFormed cfg := by decide
theorem test_wf_program_gran : ¬(Instr.mProgram 0 3 [] 0).WellFormed cfg := by decide
theorem test_wf_program_range : ¬(Instr.mProgram 0xFFFFFF 0 [1, 2] 0).WellFormed cfg := by decide
theorem test_wf_read_opts : ¬(Instr.mRead 0 1 0x04).WellFormed cfg := by decide
theorem test_wf_read_range : ¬(Instr.mRead 0xFFFFFF 2 0).WellFormed cfg := by decide
theorem test_wf_erase_gran : ¬(Instr.mErase 0 1 3 0).WellFormed cfg := by decide
theorem test_wf_erase_opts : ¬(Instr.mErase 0 1 0 0x02).WellFormed cfg := by decide
theorem test_wf_erase_range : ¬(Instr.mErase 1 0x1000000 0 0).WellFormed cfg := by decide
theorem test_wf_verify_range : ¬(Instr.mVerify 0xFFFFFF [1, 2] 0).WellFormed cfg := by decide
theorem test_wf_verify_opts : ¬(Instr.mVerify 0 [] 0x08).WellFormed cfg := by decide
theorem test_wf_opPp : ¬(Instr.opPp 0x0000FF [0x11, 0x22]).WellFormed cfg := by decide
theorem test_wf_opRead : ¬(Instr.opRead 0 16385).WellFormed cfg := by decide
theorem test_wf_read_top : (Instr.mRead 0xFFFFFF 1 0).WellFormed cfg := by decide
theorem test_wf_cfg : cfg.Wf := by decide
theorem test_wf_cfg_page : ¬({ cfg with pageSize := 300 } : Cfg).Wf := by decide
theorem test_wf_cfg_codes : ¬({ cfg with flashOps := { refFlashOps with ce := 0x06 } } : Cfg).Wf := by decide
theorem test_wf_cfg_debounce : ¬({ cfg with readyDebounce := 0 } : Cfg).Wf := by decide

/-! ## Decoding: words written out from 30_encoding.md R100 to R104 -/

theorem test_decode_session :
    decodeTableWord 64 0x0000000000000001 = some (.sessionOpen []) ∧
    decodeTableWord 64 0x0000000000000002 = some .sessionClose := by decide

theorem test_decode_spi_identity :
    decodeTableWord 64 0x0000000000000010 = some (.spiXfer []) ∧
    decodeTableWord 64 0x0000000000000011 = some (.spiStream []) ∧
    decodeTableWord 64 0x0000000000000012 = some .spiEnd ∧
    decodeTableWord 64 0x0000000000000020 = some .readIdcode ∧
    decodeTableWord 64 0x0000000000000021 = some .readStatus := by decide

theorem test_decode_flash_plain :
    decodeTableWord 64 0x0000000000000030 = some .fWren ∧
    decodeTableWord 64 0x0000000000000031 = some .fWrdi ∧
    decodeTableWord 64 0x0000000000000032 = some .fRdsr1 ∧
    decodeTableWord 64 0x0000000000000033 = some .fRdsr2 ∧
    decodeTableWord 64 0x0000000000000034 = some .fRdsr3 ∧
    decodeTableWord 64 0x0000000000000038 = some .fCe ∧
    decodeTableWord 64 0x000000000000003D = some .fRdid ∧
    decodeTableWord 64 0x0000000000000040 = some .fWait ∧
    decodeTableWord 64 0x0000000000000041 = some .fUnprotect ∧
    decodeTableWord 64 0x0000000000000042 = some .fReset := by decide

theorem test_decode_flash_operands :
    decodeTableWord 64 0x0000000000000035 = some (.fWrsr1 0x00) ∧
    decodeTableWord 64 0x0000000000000236 = some (.fWrsr2 0x02) ∧
    decodeTableWord 64 0x0000000000006037 = some (.fWrsr3 0x60) ∧
    decodeTableWord 64 0x0000001000000039 = some (.fSe4k 0x001000) ∧
    decodeTableWord 64 0x000001800000003A = some (.fBe32k 0x018000) ∧
    decodeTableWord 64 0x0000FF000000003B = some (.fBe64k 0xFF0000) ∧
    decodeTableWord 64 0x00000010FE00003C = some (.fPp 0x0010FE []) ∧
    decodeTableWord 64 0x00000010FE00003E = some (.fRead 0x0010FE) ∧
    decodeTableWord 64 0x000000000000003F = some (.fContRead 0) := by decide

theorem test_decode_config :
    decodeTableWord 64 0x0000000000000050 = some .cEnable ∧
    decodeTableWord 64 0x0000000000000051 = some .cErase ∧
    decodeTableWord 64 0x0000000000000052 = some .cDisable ∧
    decodeTableWord 64 0x0000000000000053 = some .cResetCrc ∧
    decodeTableWord 64 0x0000000000000054 = some .cBurst ∧
    decodeTableWord 64 0x0000000000000055 = some (.cBurstData []) ∧
    decodeTableWord 64 0x0000000000000056 = some .cRefresh ∧
    decodeTableWord 64 0x0000000000000057 = some .cPassthrough := by decide

theorem test_decode_macros :
    decodeTableWord 64 0x0000000000000060 = some .mIdentify ∧
    decodeTableWord 64 0x0000000000000161 = some (.mProbe 0x01) ∧
    decodeTableWord 64 0x0000000000000162 = some (.mLoadSram [] 0x01) ∧
    decodeTableWord 64 0x00000000FE000263 = some (.mProgram 0x0000FE 0 [] 0x02) ∧
    decodeTableWord 64 0x0000FFFFFF000064 = some (.mRead 0xFFFFFF 0 0x00) ∧
    decodeTableWord 64 0x0000001000020065 = some (.mErase 0x001000 0 2 0x00) ∧
    decodeTableWord 64 0x0000000010000066 = some (.mVerify 0x000010 [] 0x00) := by decide

theorem test_decode_spi_rows :
    decodeTableWord 8 0x06 = some .opWren ∧ decodeTableWord 8 0x04 = some .opWrdi ∧
    decodeTableWord 8 0x05 = some .opRdsr1 ∧ decodeTableWord 8 0x35 = some .opRdsr2 ∧
    decodeTableWord 8 0x15 = some .opRdsr3 ∧ decodeTableWord 8 0x01 = some (.opWrsr1 0) ∧
    decodeTableWord 8 0x31 = some (.opWrsr2 0) ∧ decodeTableWord 8 0x11 = some (.opWrsr3 0) ∧
    decodeTableWord 8 0xC7 = some .opCe ∧ decodeTableWord 8 0x20 = some (.opSe4k 0) ∧
    decodeTableWord 8 0x52 = some (.opBe32k 0) ∧ decodeTableWord 8 0xD8 = some (.opBe64k 0) ∧
    decodeTableWord 8 0x02 = some (.opPp 0 [0]) ∧ decodeTableWord 8 0x9F = some .opRdid ∧
    decodeTableWord 8 0x0B = some .opFastRead ∧ decodeTableWord 8 0x03 = some (.opRead 0 0) := by decide

theorem test_decode_ir_rows :
    decodeTableWord 8 0xE0 = some .irIdcode ∧ decodeTableWord 8 0x3C = some .irStatus ∧
    decodeTableWord 8 0xC6 = some .irEnable ∧ decodeTableWord 8 0x0E = some .irErase ∧
    decodeTableWord 8 0x26 = some .irDisable ∧ decodeTableWord 8 0x3B = some .irResetCrc ∧
    decodeTableWord 8 0x7A = some .irBurst ∧ decodeTableWord 8 0x79 = some .irRefresh ∧
    decodeTableWord 8 0x3A = some .irPassthrough := by decide

/-- What an input is decoded as. -/
def accepted : Except DecodeError Instr → Option Instr
  | .ok i => some i
  | .error _ => none

/-- Why an input is not decoded. -/
def rejected : Except DecodeError Instr → Option DecodeError
  | .ok _ => none
  | .error e => some e

/-- 95 §3.2: operands beside the header. -/
theorem test_decode_operands :
    accepted (decodeHost ⟨0x00000010FE00003C, none, [0x11, 0x22]⟩) = some (.fPp 0x0010FE [0x11, 0x22]) ∧
    accepted (decodeHost ⟨0x000000000000003F, some 3, []⟩) = some (.fContRead 3) ∧
    accepted (decodeHost ⟨0x0000001000020065, some 0x2000, []⟩) = some (.mErase 0x001000 0x2000 2 0) ∧
    accepted (decodeHost ⟨0x0000000010000066, none, [0xFF, 0xFE]⟩) = some (.mVerify 0x000010 [0xFF, 0xFE] 0) := by decide

/-- 95 §3.2: the malformed headers (R109). -/
theorem test_decode_malformed :
    rejected (decodeHost ⟨0x0000000000000013, none, []⟩) = some .undefinedCode ∧
    rejected (decodeHost ⟨0x0000000000040030, none, []⟩) = some .reservedBits ∧
    rejected (decodeHost ⟨0x0001000000000030, none, []⟩) = some .reservedBits ∧
    rejected (decodeHost ⟨0x0000000100000030, none, []⟩) = some .unreadField ∧
    rejected (decodeHost ⟨0x0000000000000530, none, []⟩) = some .unreadField ∧
    rejected (decodeHost ⟨0x0000000000000160, none, []⟩) = some .unreadField := by decide

/-- Frames with operands, and frames outside the tables (R105, R111, R114). -/
theorem test_decode_frames :
    accepted (decodeSpi cfg [0x20, 0x01, 0x23, 0x45]) = some (.opSe4k 0x012345) ∧
    accepted (decodeSpi cfg [0x02, 0x00, 0x00, 0xFE, 0x11, 0x22]) = some (.opPp 0x0000FE [0x11, 0x22]) ∧
    accepted (decodeSpi cfg [0x03, 0x00, 0x10, 0x00, 0x00, 0x00]) = some (.opRead 0x001000 2) ∧
    accepted (decodeSpi cfg [0x9F, 0x00, 0x00, 0x00]) = some .opRdid ∧
    rejected (decodeSpi cfg [0x06, 0x00]) = some .badFrame ∧ rejected (decodeSpi cfg [0xAB]) = some .unlistedOpcode ∧
    accepted (decodeTap cfg .familyB 0x3A) = some .irPassthrough ∧
    rejected (decodeTap cfg .familyA 0xFF) = some .unlistedIrCode := by decide

/-! ## Bits, bytes and words -/

/-- 95 §3.1. -/
theorem test_rev8 : [0x01, 0x9F, 0xA5, 0x00, 0x3D, 0xF4].map rev8 = ([0x80, 0xF9, 0xA5, 0x00, 0xBC, 0x2F] : List Byte) := by
  decide

/-- 95 §3.1. -/
theorem test_revBuf : revBuf [0x03, 0x00, 0x10, 0x00] = [0xC0, 0x00, 0x08, 0x00] := by decide

/-- 95 §2.5. -/
theorem test_assemble : assemble .msbByteFirst [0xAB, 0xCD, 0x12, 0x34] = 0xABCD1234 ∧
    assemble .lsbByteFirst [0x34, 0x12, 0xCD, 0xAB] = 0xABCD1234 := by decide

/-- 95 §3.7, table E. -/
theorem test_erase_region :
    eraseBlocks 0 0 4096 = [] ∧ eraseBlocks 1 0 4096 = [0] ∧ eraseBlocks 0xFFF 2 4096 = [0, 0x1000] ∧
    eraseBlocks 0x1000 0x2000 65536 = [0] ∧ eraseBlocks 0x12345 0x10000 65536 = [0x10000, 0x20000] ∧
    eraseBlocks 0xFFF000 0x1000 4096 = [0xFFF000] ∧ eraseEnd 0xFF0001 0xFFFF 65536 = 0x1000000 := by decide

/-- 95 §4, P2: a program across a page boundary. -/
theorem test_page_pieces : pagePieces cfg 0x0000FE [1, 2, 3, 4] = [(0xFE, [1, 2]), (0x100, [3, 4])] := by decide

/-- 95 §2.4 and §3.7: the chunks of a read. -/
theorem test_read_sizes : readSizes cfg 4097 = [4096, 1] ∧ readSizes cfg 0 = [] := by decide

/-! ## The textual form (30_encoding.md R115) -/

theorem test_parse_address : parseLine "F_SE4K 0x010000 ; erase".toList = some (.fSe4k 0x010000) := by decide
theorem test_parse_data : parseLine "F_PP 0x0000FE, [0x11, 0x22]".toList = some (.fPp 0xFE [0x11, 0x22]) := by decide
theorem test_parse_options :
    parseLine ("M_PROGRAM 0x000000, 64K, [1,2], ".toList ++ [Char.ofNat 123] ++ "refresh, bulk".toList ++ [Char.ofNat 125]) =
      some (.mProgram 0 2 [1, 2] 5) := by decide
theorem test_parse_unknown : parseLine "F_FAST 0".toList = none := by decide

/-! ## Sessions (95 §3.9) -/

theorem test_reset_step : field (·.trace) (step State.reset) = some [] := by decide

theorem test_sessionOpen :
    sent (exec (.sessionOpen [7]) (hearing { flash with err := true } [⟨true, [], .shiftDr⟩])) = [.closed, .opened [7]] ∧
    field (fun t => (t.session, t.err, t.tap, t.dev, t.pt)) (exec (.sessionOpen [7])
      (hearing { flash with err := true } [⟨true, [], .shiftDr⟩])) = some (.opened, false, .shiftDr, none, false) := by decide

theorem test_sessionOpen_fails :
    answers (exec (.sessionOpen [7]) (hearing bus [failed])) = [failedResult .sessionOpenFailed] := by decide

theorem test_sessionClose :
    field (fun t => (t.session, t.trace, t.err)) (exec .sessionClose { bus with err := true }) =
      some (.closed, [.closed], true) := by decide

theorem test_sessionClose_closed :
    answers (exec .sessionClose { bus with session := .closed }) = [refusedResult .noSession] := by decide

/-! ## The SPI bridge (95 §3.3) -/

theorem test_spiXfer :
    answers (exec (.spiXfer [0x05, 0x00]) (hearing bus [ok [], ok [0xFF, 0x40]])) = [okResult (.bytes [0xFF, 0x02])] ∧
    field (·.trace) (exec (.spiXfer [0x05, 0x00]) (hearing bus [ok [], ok [0xFF, 0x40]])) =
      some [.goTo .shiftDr, .shift .dr [0xA0, 0x00] 16 true [0xFF, 0x40]] := by decide

theorem test_spiXfer_ends_held :
    sent (exec (.spiXfer [0x00]) { bus with tap := .shiftDr, rdOpen := true }) = [.shift .dr [0x00] 8 true []] ∧
    field (fun t => (t.tap, t.rdOpen)) (exec (.spiXfer [0x00]) { bus with tap := .shiftDr, rdOpen := true }) =
      some (.pauseDr, false) := by decide

theorem test_spiStream :
    sent (exec (.spiStream [0x03, 0x00, 0x00, 0x00]) bus) = held [0xC0, 0x00, 0x00, 0x00] ∧
    field (·.tap) (exec (.spiStream [0x03, 0x00, 0x00, 0x00]) bus) = some .shiftDr := by decide

theorem test_spiEnd :
    sent (exec .spiEnd { bus with tap := .shiftDr }) = [.goTo .runTestIdle] ∧ sent (exec .spiEnd bus) = [] := by decide

/-! ## Identity and status (95 §3.4) -/

theorem test_readIdcode :
    sent (exec .readIdcode (hearing bus [ok [], ok [0], ok [], ok [0x41, 0x11, 0x30, 0x43]])) =
      loads 0xE0 ++ full [0, 0, 0, 0] ∧
    answers (exec .readIdcode (hearing bus [ok [], ok [0], ok [], ok [0x41, 0x11, 0x30, 0x43]])) =
      [okResult (.device device)] := by decide

theorem test_readIdcode_written_once :
    field (fun t => (t.dev, t.result)) (exec .readIdcode (hearing flash [ok [], ok [0], ok [], ok [0x01, 0x11, 0x30, 0x43]])) =
      some (some device, some (okResult (.device ⟨.familyA, 0x01113043, "LFE5UM-85"⟩))) := by decide

theorem test_readStatus :
    field (fun t => t.result.map fun r => r.data) (exec .readStatus (hearing flash [ok [], ok [0], ok [], ok [0x03, 0x80, 0x30, 0x00]]))
      = some (some (.status ⟨32, 0x03803000, decodeStatus cfg .familyA 0x03803000⟩)) ∧
    (decodeStatus cfg .familyA 0x03803000).filter (fun f => f.2 == .flag true) =
      [("BUSY", .flag true), ("FAIL", .flag true)] ∧
    ("BSE_ERROR", FieldValue.name "SDM error, bitstream passes the size of the SRAM array") ∈
      decodeStatus cfg .familyA 0x03803000 := by decide

/-- 95 §2.6: DONE alone. -/
theorem test_status_done :
    (decodeStatus cfg .familyA 0x00000100).filter (fun f => f.2 == .flag true) = [("DONE", .flag true)] := by decide

/-! ## Flash commands (95 §3.5) -/

theorem test_fWren : sent (exec .fWren flash) = full [0x60] ∧ field (·.weIssued) (exec .fWren flash) = some true := by decide

theorem test_fWrdi :
    sent (exec .fWrdi { flash with weIssued := true }) = full [0x20] ∧
    field (·.weIssued) (exec .fWrdi { flash with weIssued := true }) = some false := by decide

theorem test_fRdsr1 :
    sent (exec .fRdsr1 (hearing flash [ok [], ok [0xFF, 0x40]])) = full [0xA0, 0x00] ∧
    answers (exec .fRdsr1 (hearing flash [ok [], ok [0xFF, 0x40]])) = [okResult (.byte 0x02)] := by decide

/-- The frame joins a held read (95 §4, P5 step 6). -/
theorem test_fRdsr1_merged :
    sent (exec .fRdsr1 { flash with tap := .shiftDr, rdOpen := true }) = [.shift .dr [0xA0, 0x00] 16 true []] ∧
    field (·.hz) (exec .fRdsr1 { flash with tap := .shiftDr, rdOpen := true }) =
      some { frameMerged := true } := by decide

theorem test_fRdsr2 :
    sent (exec .fRdsr2 { flash with mustPoll := true }) = full [0xAC, 0x00] ∧
    field (·.hz) (exec .fRdsr2 { flash with mustPoll := true }) = some { busyNotPolled := true } := by decide

theorem test_fRdsr3 :
    sent (exec .fRdsr3 (hearing flash [ok [], ok [0xFF, 0x01]])) = full [0xA8, 0x00] ∧
    answers (exec .fRdsr3 (hearing flash [ok [], ok [0xFF, 0x01]])) = [okResult (.byte 0x80)] := by decide

theorem test_fWrsr1 :
    sent (exec (.fWrsr1 0x00) flash) = full [0x80, 0x00] ∧
    field (fun t => (t.weIssued, t.mustPoll, t.hz)) (exec (.fWrsr1 0x00) flash) =
      some (false, true, { noWriteEnable := true }) := by decide

theorem test_fWrsr1_enabled :
    field (fun t => (t.weIssued, t.mustPoll, t.hz)) (exec (.fWrsr1 0x00) { flash with weIssued := true }) =
      some (false, true, {}) := by decide

theorem test_fWrsr2 : sent (exec (.fWrsr2 0x02) flash) = full [0x8C, 0x40] := by decide
theorem test_fWrsr3 : sent (exec (.fWrsr3 0x60) flash) = full [0x88, 0x06] := by decide

theorem test_fCe :
    sent (exec .fCe flash) = full [0x60] ++ full [0xE3] ∧ field (·.mustPoll) (exec .fCe flash) = some true := by decide

theorem test_fSe4k : sent (exec (.fSe4k 0x012345) flash) = full [0x60] ++ full [0x04, 0x80, 0xC4, 0xA2] := by decide
theorem test_fBe32k : sent (exec (.fBe32k 0x018000) flash) = full [0x60] ++ full [0x4A, 0x80, 0x01, 0x00] := by decide
theorem test_fBe64k : sent (exec (.fBe64k 0x020000) flash) = full [0x60] ++ full [0x1B, 0x40, 0x00, 0x00] := by decide

theorem test_fPp :
    sent (exec (.fPp 0x0000FE [0x11, 0x22]) flash) =
      full [0x60] ++ held [0x40, 0x00, 0x00, 0x7F] ++ [.shift .dr [0x88, 0x44] 16 true []] := by decide

theorem test_fPp_crosses :
    answers (exec (.fPp 0x0000FF [0x11, 0x22]) flash) = [refusedResult .badLength] ∧
    sent (exec (.fPp 0x0000FF [0x11, 0x22]) flash) = [] := by decide

theorem test_fRdid :
    answers (exec .fRdid (hearing flash [ok [], ok [0, 0xF7, 0x02, 0x18]])) = [okResult (.bytes [0xEF, 0x40, 0x18])] ∧
    sent (exec .fRdid flash) = full [0xF9, 0, 0, 0] := by decide

theorem test_fRead :
    sent (exec (.fRead 0x001000) flash) = held [0xC0, 0x00, 0x08, 0x00] ∧
    field (·.rdOpen) (exec (.fRead 0x001000) flash) = some true := by decide

/-- 95 §4, P1 step 13. -/
theorem test_fContRead :
    answers (exec (.fContRead 3) (hearing { flash with tap := .shiftDr, rdOpen := true } [ok [0x88, 0x44, 0xFF]])) =
      [okResult (.bytes [0x11, 0x22, 0xFF])] := by decide

theorem test_fContRead_closed : answers (exec (.fContRead 2) flash) = [refusedResult .noOpenRead] := by decide

/-- 95 §2.3, poll 5: the second ready reading in a row ends the wait. -/
theorem test_wait_ends :
    answers (resume ⟨4, .wait, none⟩ (hearing { flash with rdyCount := 1, mustPoll := true } [ok [], ok [0, 0x00]])) =
      [okResult (.polls 5)] ∧
    field (fun t => (t.rdyCount, t.mustPoll)) (resume ⟨4, .wait, none⟩
      (hearing { flash with rdyCount := 1, mustPoll := true } [ok [], ok [0, 0x00]])) = some (0, false) := by decide

/-- 95 §2.3, poll 3: a busy reading starts the count again. -/
theorem test_wait_goes_on :
    field (fun t => (t.task, t.rdyCount)) (resume ⟨2, .wait, none⟩
      (hearing { flash with rdyCount := 1 } [ok [], ok [0, 0x80]])) = some (some ⟨3, .wait, none⟩, 0) := by decide

theorem test_fWait :
    field (fun t => (t.task, t.rdyCount)) (exec .fWait (hearing flash [ok [], ok [0, 0x00]])) =
      some (some ⟨1, .wait, none⟩, 1) ∧
    sent (exec .fWait (hearing flash [ok [], ok [0, 0x00]])) = full [0xA0, 0x00] ++ [.delay 5] := by decide

/-- Polled once, so that the command ends in one step; the register reads back as 0x1C. -/
theorem test_fUnprotect :
    answers (exec .fUnprotect (hearing { flash with weIssued := true, cfg := { cfg with readyDebounce := 1 } }
      ([0x00, 0x00, 0x38].flatMap fun b => [ok [], ok [0, b]]))) = [okResult (.unprotect ⟨true, 0x1C⟩)] := by decide

theorem test_fReset : sent (exec .fReset flash) = full [0xFF, 0xFF, 0xFF, 0xFF, 0xFF, 0xFF, 0xFF, 0xFF] := by decide

/-! ## The configuration sequencer (95 §3.6) -/

theorem test_cEnable :
    sent (exec .cEnable flash) = loads 0xC6 ++ full [0x00] ++ [.goTo .runTestIdle, .settle 10] ∧
    field (·.pt) (exec .cEnable flash) = some false := by decide

theorem test_cErase :
    sent (exec .cErase flash) = loads 0x0E ++ full [0x00] ++ [.goTo .runTestIdle, .settle 10] := by decide

theorem test_cDisable : sent (exec .cDisable flash) = loads 0x26 ++ [.goTo .runTestIdle, .settle 10] := by decide

/-- Under `SHIFT_EXIT_STATE = RunTestIdle`. -/
theorem test_cDisable_exit :
    sent (exec .cDisable { flash with cfg := { cfg with shiftExit := .runTestIdle } }) = loads 0x26 ++ [.settle 10] := by decide

theorem test_cResetCrc : sent (exec .cResetCrc flash) = loads 0x3B ++ [.goTo .runTestIdle, .settle 10] := by decide
theorem test_cRefresh : sent (exec .cRefresh flash) = loads 0x79 ++ [.goTo .runTestIdle, .settle 10] := by decide

theorem test_cBurst :
    sent (exec .cBurst flash) = loads 0x7A ++ [.goTo .captureDr] ∧
    field (fun t => (t.tap, t.burstOpen)) (exec .cBurst flash) = some (.captureDr, true) := by decide

theorem test_cBurstData :
    sent (exec (.cBurstData [0xFF, 0x00, 0x01]) { flash with tap := .captureDr, burstOpen := true }) = held [0xFF, 0x00, 0x80] ∧
    field (fun t => (t.tap, t.burstOpen)) (exec (.cBurstData [0x06]) { flash with tap := .shiftDr, burstOpen := true }) =
      some (.shiftDr, true) := by decide

theorem test_cBurstData_closed : answers (exec (.cBurstData [0x00]) flash) = [refusedResult .noOpenBurst] := by decide

theorem test_cPassthrough :
    sent (exec .cPassthrough { flash with pt := false }) = loads 0x3A ++ full [0xFE, 0x68] ++ [.goTo .runTestIdle] ∧
    field (·.pt) (exec .cPassthrough { flash with pt := false }) = some true := by decide

/-! ## Faults and their order (95 §3.8) -/

theorem test_fault_order :
    answers (exec (.fPp 0x0000FF [1, 2]) { bus with session := .closed, err := true }) = [refusedResult .noSession] ∧
    answers (exec (.fPp 0x0000FF [1, 2]) { bus with err := true }) = [refusedResult .badLength] ∧
    answers (exec (.fPp 0x0000FF [1]) { bus with err := true }) = [failedResult .sticky] ∧
    answers (exec (.fContRead 1) { bus with err := true }) = [failedResult .sticky] ∧
    answers (exec .cEnable { bus with err := true }) = [failedResult .sticky] ∧
    answers (exec .cEnable bus) = [refusedResult .notIdentified] := by decide

/-- The shift of `F_WREN` outside passthrough is answered Fail. -/
theorem test_transport_fault :
    field (fun t => (t.result, t.err, t.hz, t.tap)) (exec .fWren (hearing bus [ok [], failed])) =
      some (some (failedResult .transport), true, { noPassthrough := true }, .shiftDr) := by decide

/-- From a mark on no answer of a reference target is fixed (60_exceptions.md R334): this one is the oracle's. -/
theorem test_mark_loses_target :
    field (fun t => (t.target, t.result)) (exec .fRdsr1 { board with pt := false, script := [ok [], ok [0, 0x80]] }) =
      some (none, some (okResult (.byte 0x01))) := by decide

/-! ## Macros (95 §3.7 and §4) -/

/-- P4: 37 events, and the path of the orchestrator. -/
theorem test_mLoadSram :
    field (fun t => (t.trace.length, t.orchLog, t.dev))
      (exec (.mLoadSram [0xFF, 0x00, 0x01] 0x01) { board with dev := none, pt := false }) =
        some (37, [.identify, .loadSram, .refresh, .done, .idle], some device) := by decide +kernel

theorem test_mIdentify_unknown :
    answers (exec .mIdentify bus) = [okResult (.identity (some ⟨.unknown, 0, ""⟩) none)] := by decide +kernel

/-- Family Unknown is a success, of the session's device too (45_orchestrator.md R283). -/
theorem test_mIdentify_session_unknown :
    answers (exec .mIdentify { board with dev := some ⟨.unknown, 0, ""⟩ }) =
      [okResult (.identity (some ⟨.unknown, 0, ""⟩) none)] := by decide +kernel

theorem test_mProbe :
    answers (exec (.mProbe 0x00) board) = [okResult (.probe (some device)
      (some ⟨32, 0x100, decodeStatus cfg .familyA 0x100⟩) [0xEF, 0x40, 0x18] (some 0x00))] := by decide +kernel

theorem test_mProbe_unknown :
    field (fun t => (t.result, t.orch)) (exec (.mProbe 0x00) bus) = some (some (refusedResult .unknownFamily), .idle) := by decide +kernel

theorem test_mRead : answers (exec (.mRead 0x0010FE 3 0x00) board) = [okResult (.bytes [0x11, 0x22, 0xFF])] := by decide +kernel

theorem test_mVerify : answers (exec (.mVerify 0x0010FE [0x11, 0x23] 0x00) board) =
    [⟨.verifyMismatch, .none, .mismatch 0x0010FF⟩] := by decide +kernel

/-- A board whose flash is never busy, polled once: a macro with waits runs in one step. -/
def quick : State :=
  { board with cfg := { cfg with readyDebounce := 1 }, target := some { chip with bw := 0, be := 0 } }

theorem test_mErase :
    field (fun t => (t.result, t.target.map (·.mem))) (exec (.mErase 0x001000 1 0 0x00) quick) =
      some (some okNone, some []) := by decide +kernel

/-- P2: the program macro across a page boundary, protection disabled first. -/
theorem test_mProgram :
    field (fun t => (t.result, t.flashAt 0xFE, t.flashAt 0x101, t.flashAt 0xFD, t.flashAt 0x10FE))
      (exec (.mProgram 0x0000FE 0 [1, 2, 3, 4] 0x02) quick) =
      some (some (okResult (.program (some device) [0xEF, 0x40, 0x18] (some ⟨false, 0⟩) none)),
        some 1, some 4, some 0xFF, some 0x11) := by decide +kernel

/-- A macro stops at its first busy wait, and keeps the rest. -/
theorem test_mProgram_waits :
    field (fun t => (t.results, t.orch, t.task.map (fun w => (w.polls, w.outer.map (fun e => e.rest.length)))))
      (exec (.mProgram 0x0000FE 0 [1, 2, 3, 4] 0x10) board) = some ([], .programFlash, some (1, some 4)) := by decide +kernel

/-! ## SPI and TAP rows -/

theorem test_op_frames :
    sent (exec .opWren flash) = full [0x60] ∧ sent (exec .opWrdi flash) = full [0x20] ∧
    sent (exec .opCe flash) = full [0xE3] ∧ sent (exec .opRdid flash) = full [0xF9, 0, 0, 0] := by decide

theorem test_op_registers :
    sent (exec .opRdsr1 flash) = full [0xA0, 0] ∧ sent (exec .opRdsr2 flash) = full [0xAC, 0] ∧
    sent (exec .opRdsr3 flash) = full [0xA8, 0] ∧ sent (exec (.opWrsr1 1) flash) = full [0x80, 0x80] ∧
    sent (exec (.opWrsr2 1) flash) = full [0x8C, 0x80] ∧ sent (exec (.opWrsr3 1) flash) = full [0x88, 0x80] := by decide

theorem test_op_addresses :
    sent (exec (.opSe4k 0x012345) flash) = full [0x04, 0x80, 0xC4, 0xA2] ∧
    sent (exec (.opBe32k 0x018000) flash) = full [0x4A, 0x80, 0x01, 0x00] ∧
    sent (exec (.opBe64k 0x020000) flash) = full [0x1B, 0x40, 0x00, 0x00] ∧
    sent (exec (.opPp 0x0000FE [0x11]) flash) = held [0x40, 0x00, 0x00, 0x7F] ++ [.shift .dr [0x88] 8 true []] ∧
    sent (exec (.opRead 0x001000 1) flash) = held [0xC0, 0x00, 0x08, 0x00] ++ [.shift .dr [0x00] 8 false []] := by decide

theorem test_ir_rows :
    sent (exec .irIdcode flash) = loads 0xE0 ∧ sent (exec .irStatus flash) = loads 0x3C ∧
    sent (exec .irEnable flash) = loads 0xC6 ∧ sent (exec .irErase flash) = loads 0x0E ∧
    sent (exec .irDisable flash) = loads 0x26 ∧ sent (exec .irResetCrc flash) = loads 0x3B ∧
    sent (exec .irBurst flash) = loads 0x7A ∧ sent (exec .irRefresh flash) = loads 0x79 ∧
    sent (exec .irPassthrough flash) = loads 0x3A := by decide

/-! ## Witnesses: for every statement with hypotheses, a state and operands that meet them, at the ends of their ranges -/

/-- A wait in progress on a busy flash. -/
def waiting : State := { flash with task := some ⟨1, .wait, none⟩, rdyCount := 0, mustPoll := true }

/-- The same on the board, whose flash is busy for two polls. -/
def busy : State := { board with target := some { chip with busyPolls := 2 } }

/-- The same outside passthrough, where every flash command raises a mark. -/
def outside : State := { flash with pt := false }

/-- A wait of a macro, on the board. -/
def inMacro : Expansion := ⟨.erase, .nothing, [.enter .refresh, .sub .cRefresh .nothing], {}⟩

/-- The bus with a command at the host port. -/
def given (s : State) (x : Fetch) : State := { s with inbox := [x] }

theorem inv_of {s : State} (hc : s.cfg.Wf) (h1 : s.StreamsInv) (h2 : s.WaitInv) (h3 : s.orch = .idle)
    (h4 : s.task.all fun t => t.outer.isNone) (h5 : s.target.all fun t => decide t.mem.Wf)
    (h6 : s.HazardInv) : s.Inv := by
  refine ⟨hc, h1, h2, ⟨fun _ _ _ => h3, fun _ => h3⟩, fun t e ht he => ?_, h6, fun t ht => ?_⟩
  · rw [ht] at h4
    simp [he] at h4
  · rw [ht] at h5
    exact of_decide_eq_true h5

theorem witness_inv_bus : bus.Inv := inv_of (by decide) (by decide) (by decide) rfl rfl rfl (by decide)
theorem witness_inv_board : board.Inv := inv_of (by decide) (by decide) (by decide) rfl rfl (by decide) (by decide)
theorem witness_inv_waiting : waiting.Inv := inv_of (by decide) (by decide) (by decide) rfl rfl rfl (by decide)

/-- A read in progress, and a burst in progress. -/
theorem witness_inv_streams :
    { flash with rdOpen := true, tap := .shiftDr }.Inv ∧ { flash with burstOpen := true, tap := .captureDr }.Inv :=
  ⟨inv_of (by decide) (by decide) (by decide) rfl rfl rfl (by decide),
    inv_of (by decide) (by decide) (by decide) rfl rfl rfl (by decide)⟩

theorem witness_DecodeOfEncode : cfg.WfCodes := by decide

theorem witness_EncodeOfDecode :
    decode cfg .familyA (.host ⟨0x0000FFFFFF000064, some 1, []⟩) = .ok (.mRead 0xFFFFFF 1 0) ∧
    decode cfg .familyA (.spi [0x02, 0xFF, 0xFF, 0xFF, 1]) = .ok (.opPp 0xFFFFFF [1]) ∧
    decode cfg .familyB (.tap 0x3A) = .ok .irPassthrough := ⟨rfl, rfl, rfl⟩

/-- Each way a header can be malformed, at the lowest or highest bit that makes it so. -/
theorem witness_MalformedHeaderIsRefused :
    hostRow (hCode 0x0000000000000013) = none ∧ hReservedLow 0x0000000000040030 ≠ 0 ∧
    hReservedLow 0x0000000000800030 ≠ 0 ∧ hReservedHigh 0x0001000000000030 ≠ 0 ∧ hReservedHigh 0x8000000000000030 ≠ 0 ∧
    ((hostRow (hCode 0x0000000000000130)).any fun r => !r.format.value && hValue 0x0000000000000130 != 0) = true ∧
    ((hostRow (hCode 0x0000000000010030)).any fun r => !r.format.gran && hGran 0x0000000000010030 != 0) = true ∧
    ((hostRow (hCode 0x0000000001000030)).any fun r => !r.format.addr && hAddr 0x0000000001000030 != 0) = true ∧
    hCode 0x0000000000010001 = 0x01 ∧ (given bus (.host ⟨0x0000000000000013, none, []⟩)).task = none := by decide

theorem witness_StepRunsTheDecodedInstruction :
    (given bus (.host ⟨0x12, none, []⟩)).task = none ∧
    decode (given bus (.host ⟨0x12, none, []⟩)).cfg (given bus (.host ⟨0x12, none, []⟩)).irFamily (.host ⟨0x12, none, []⟩) =
      .ok .spiEnd := ⟨rfl, rfl⟩

/-- Steps with nothing to do, with a command that ends, with one that waits, and with a wait that goes on. -/
theorem witness_CommandsRunToCompletion :
    (field (·.task) (step bus)).isSome ∧
    field (fun t => t.results.length) (step (given bus (.host ⟨0x12, none, []⟩))) = some 1 ∧
    field (fun t => t.task.isSome) (step (given flash (.host ⟨0x40, none, []⟩))) = some true ∧
    field (fun t => t.task.isSome) (step (hearing waiting [ok [], ok [0, 0x80]])) = some true := by decide

theorem witness_SessionOpenResult :
    ({ bus with cfg := tiny } : State).cfg.maxXferBytes < [1, 2, 3].length ∧
    [1, 2].length ≤ ({ bus with cfg := tiny } : State).cfg.maxXferBytes ∧
    bus.nextAnswer.ok = true ∧ (hearing bus [failed]).nextAnswer.ok = false ∧
    field (fun t => t.target.isSome) (exec (.sessionOpen [])
      { board with tap := .captureDr, burstOpen := true, script := [ok []] }) =
      some false := by decide

theorem witness_SessionCloseResult :
    ({ bus with session := .closed } : State).session = .closed ∧ bus.session = .opened ∧
    field (fun t => t.target.isSome) (exec .sessionClose board) = some true ∧
    field (fun t => t.target.isSome) (exec .sessionClose { board with tap := .shiftDr }) = some false := by decide

theorem witness_SessionRule :
    Instr.fWren.isSessionOpen = false ∧ Instr.fWren ≠ .opFastRead ∧ hCode 0x13 ≠ 0x01 ∧
    field (·.session) (exec .spiEnd bus) = some .opened ∧ field (·.session) (exec .sessionClose bus) = some .closed ∧
    field (·.result) (exec (.sessionOpen [1, 2, 3]) { bus with cfg := tiny }) = some (some (refusedResult .badLength)) ∧
    field (·.session) (resume ⟨1, .wait, none⟩ waiting) = some .opened := by decide

theorem witness_StickyErrorRule :
    field (fun t => (t.err, t.result)) (exec .spiEnd (hearing { bus with tap := .shiftDr } [failed])) =
      some (true, some (failedResult .transport)) ∧
    field (·.results) (exec .spiEnd (hearing { bus with tap := .shiftDr } [failed])) =
      some (bus.results ++ [failedResult .transport]) ∧
    field (·.results) (resume ⟨1, .wait, none⟩ (hearing waiting [failed])) =
      some (waiting.results ++ [failedResult .transport]) ∧
    field (·.err) (exec (.sessionOpen []) { bus with err := true }) = some false ∧
    field (·.err) (resume ⟨1, .wait, none⟩ (hearing waiting [failed])) = some true ∧
    field (·.err) (resume ⟨1, .wait, none⟩ { waiting with err := true }) = some true := by decide

theorem witness_StickyShortCircuit :
    Instr.fWren.WellFormed cfg ∧ Instr.mIdentify.WellFormed cfg ∧ Instr.mIdentify.isSessionOpen = false ∧
    ({ bus with err := true } : State).session = .opened ∧
    (field (·.result) (exec .fWren { bus with err := true })).isSome := by decide

theorem witness_FailedPrimitive :
    bus.err = false ∧ bus.target = none ∧ (hearing bus [failed]).nextAnswer.ok = false ∧ bus.tap ≠ .shiftDr ∧
    shiftReg ({ bus with tap := .shiftIr } : State).tap = some .ir ∧
    shiftReg ({ bus with tap := .shiftDr } : State).tap = some .dr ∧ bus.tap = .runTestIdle := by decide

/-- Each operand check, one past its end. -/
theorem witness_OperandRefusals :
    (Instr.sessionOpen [1, 2, 3]).operandRefusal tiny = some .badLength ∧
    (Instr.spiXfer []).operandRefusal tiny = some .badLength ∧ (Instr.spiStream [1, 2, 3]).operandRefusal tiny = some .badLength ∧
    (Instr.fPp 0x0000FF [1, 2]).operandRefusal cfg = some .badLength ∧ (Instr.fContRead 0).operandRefusal cfg = some .badLength ∧
    (Instr.cBurstData []).operandRefusal cfg = some .badLength ∧ (Instr.mProbe 2).operandRefusal cfg = some .badOptions ∧
    (Instr.mLoadSram [] 2).operandRefusal cfg = some .badOptions ∧ (Instr.mProgram 0 3 [] 0).operandRefusal cfg = some .badOptions ∧
    (Instr.mProgram 0xFFFFFF 0 [1, 2] 0).operandRefusal cfg = some .badAddress ∧
    (Instr.mRead 0xFFFFFF 2 0).operandRefusal cfg = some .badAddress ∧ (Instr.mRead 0 1 2).operandRefusal cfg = some .badOptions ∧
    (Instr.mErase 0xFFFFFF 2 0 0).operandRefusal cfg = some .badAddress ∧ (Instr.mErase 0 1 3 0).operandRefusal cfg = some .badOptions ∧
    (Instr.mVerify 0xFFFFFF [1, 2] 0).operandRefusal cfg = some .badAddress ∧
    (Instr.mVerify 0 [] 2).operandRefusal cfg = some .badOptions ∧ (Instr.opPp 0x0000FF [1, 2]).operandRefusal cfg = some .badLength ∧
    (Instr.opRead 0 3).operandRefusal tiny = some .badLength ∧ bus.session = .opened := by decide

theorem witness_StateRefusals :
    bus.Ready ∧ Instr.cEnable.needsFamily = true ∧ bus.dev = none ∧
    ({ bus with dev := some ⟨.unknown, 0, ""⟩ } : State).cfg.unknownPolicy = .refuse ∧
    xferLenOk cfg (1 : Len).toNat = true ∧ xferLenOk cfg (16384 : Len).toNat = true ∧ bus.rdOpen = false ∧
    xferLenOk cfg [0].length = true ∧ bus.burstOpen = false := by decide

theorem witness_RefusalChangesOnlyTheResult :
    Instr.cEnable.isMacro = false ∧ field (·.results) (exec .cEnable bus) = some (bus.results ++ [refusedResult .notIdentified]) := by
  decide

/-- A mark that stays, a command and a wait after which a target is still known, and one that takes it off. -/
theorem witness_HazardMarksStay :
    (field (fun t => t.hz.has .noPassthrough) (exec .spiEnd { bus with hz := { noPassthrough := true } })) = some true ∧
    (field (fun t => t.hz.has .frameMerged) (resume ⟨1, .wait, none⟩ { waiting with hz := { frameMerged := true } })) =
      some true ∧
    field (fun t => t.target.isSome) (exec .fRdsr1 board) = some true ∧
    field (fun t => t.target.isSome) (exec .fRdsr1 { board with pt := false, script := List.replicate 2 (ok []) }) =
      some false ∧
    field (fun t => t.target.isSome) (resume ⟨1, .wait, none⟩ { busy with mustPoll := true }) = some true ∧
    (field (fun t => (t.hz, t.target.isSome)) (exec (.sessionOpen [])
      { board with hz := { frameMerged := true }, script := [ok []] })) =
      some ({}, true) := by decide

/-- A bridge alone, and a board whose target is known at the end whatever the ghost fields were. -/
theorem witness_GhostsChangeNothingElse :
    bus.target = none ∧
    field (fun t => t.target.isSome) (exec .spiEnd (board.withGhosts false true true { frameMerged := true })) = some true ∧
    field (fun t => t.target.isSome) (exec .spiEnd board) = some true ∧
    field (fun t => t.target.isSome) (exec .fRdsr1 (board.withGhosts true true true {})) = some true ∧
    field (fun t => t.target.isSome) (resume ⟨1, .wait, none⟩ (busy.withGhosts false true false {})) = some true ∧
    field (fun t => t.target.isSome) (resume ⟨1, .wait, none⟩ busy) = some true ∧
    field (fun t => t.target.isSome) (step (given (board.withGhosts true true true {}) (.host ⟨0x32, none, []⟩))) =
      some true ∧
    field (fun t => t.target.isSome) (step (given board (.host ⟨0x32, none, []⟩))) = some true := by decide

theorem witness_DeviceIsWrittenOnce :
    field (·.dev) (exec .readIdcode flash) = some (some device) ∧ field (·.dev) (exec .fWren bus) = some none ∧
    bus.Ready ∧ bus.cfg.Wf ∧ bus.OkFor 4 ∧ bus.dev = none ∧ flash.Ready ∧ flash.OkFor 4 ∧ flash.dev = some device ∧
    flash.freshDevice ≠ device ∧
    field (·.result) (exec .readIdcode board) = some (some (okResult (.device (lookupId board.cfg chip.idcode)))) ∧
    field (·.dev) (resume ⟨1, .wait, none⟩ waiting) = some (some device) := by decide

theorem witness_StepKeepsInvariant :
    waiting.Inv ∧ (field (·.task) (step waiting)).isSome ∧ board.Inv ∧ (field (·.task) (step board)).isSome :=
  ⟨witness_inv_waiting, by decide, witness_inv_board, by decide⟩

theorem witness_StepNeverFaults : bus.Inv ∧ waiting.Inv := ⟨witness_inv_bus, witness_inv_waiting⟩

theorem witness_BitReversal : 7 < 8 ∧ (rev8 0x01).getLsbD 7 = true := by decide

theorem witness_SpiBytesGoMostSignificantBitFirst :
    ([0x05, 0xFF] : List Byte)[1]? = some 0xFF ∧ (revBuf [0x05, 0x80])[1]? = some (0x01 : Byte) := by decide

theorem witness_StatusDecoding :
    (cfg.fam .familyA).statusDecode[5]? = some ⟨8, 1, "DONE", .flag⟩ ∧
    (cfg.fam .familyA).statusDecode[1]? = some ⟨1, 3, "CONFIG_TARGET", .meanings refTargetMeanings⟩ ∧
    refTargetMeanings.find? (fun e => e.1 = 0xE / 2 ^ 1 % 2 ^ 3) = some (7, "eFuse") ∧
    (∀ m ∈ refTargetMeanings.take 5, m.1 ≠ 0xE / 2 ^ 1 % 2 ^ 3) ∧
    decodeStatus { cfg with famA := { cfg.famA with statusDecode := [⟨1, 3, "T", .meanings (refTargetMeanings.take 5)⟩] } }
      .familyA 0xE = [("T", .name "reserved/undefined")] := by decide

/-- A region that ends at the top of the space, and an empty one. -/
theorem witness_EraseRegion :
    0 < 4096 ∧ 4096 ∣ 2 ^ 24 ∧ 0xFFFFFF < 2 ^ 24 ∧ 0xFFFFFF + 1 ≤ 2 ^ 24 ∧ 65536 ∣ 2 ^ 24 ∧ 1 ∣ 2 ^ 24 ∧ 2 ^ 24 ∣ 2 ^ 24 := by decide

theorem witness_ProgramPieces :
    0 < cfg.pageSize ∧ rangeOk 0xFFFFFE [1, 2].length = true ∧ rangeOk 0 ([] : List Byte).length = true ∧
    (pagePieces cfg 0x0000FE [1, 2, 3, 4])[1]? = some (0x100, [3, 4]) := by decide

theorem witness_Chunks :
    0 < cfg.sramChunk ∧ 0 < cfg.readChunk ∧ (verifyChunks cfg 0x10 [1, 2])[0]? = some (0x10, [1, 2]) ∧
    (verifyChunks { cfg with readChunk := 2 } 0x10 [1, 2, 3]).dropLast = [(0x10, [1, 2])] := by decide

theorem witness_SpiCommands :
    bus.Ready ∧ bus.OkFor 2 ∧ xferLenOk bus.cfg [0].length = true ∧ xferLenOk tiny [1, 2].length = true ∧ board.Ready ∧ board.OkFor 2 :=
  by decide

theorem witness_ReadIdcodeResult : bus.Ready ∧ bus.cfg.Wf ∧ bus.OkFor 4 := by decide

theorem witness_IdcodeLookup :
    cfg.famA.idTable.find? (fun e => e.1 = (0x41113043 : BitVec 32)) = some (0x41113043, "LFE5U-85") ∧
    (∀ e ∈ cfg.famA.idTable, e.1 ≠ (0xABCD1234 : BitVec 32)) ∧
    cfg.famB.idTable.find? (fun e => e.1 = (0xABCD1234 : BitVec 32)) = some (0xABCD1234, "X") ∧
    (∀ e ∈ cfg.famA.idTable, e.1 ≠ (0 : BitVec 32)) ∧ (∀ e ∈ cfg.famB.idTable, e.1 ≠ (0 : BitVec 32)) := by decide

/-- Each family a command can work with: A, B, and Unknown treated as A. -/
theorem witness_ReadStatusResult :
    flash.Ready ∧ flash.cfg.Wf ∧ flash.knownFamily = some .familyA ∧ flash.OkFor 4 ∧
    ({ flash with dev := some ⟨.familyB, 0xABCD1234, "X"⟩ } : State).knownFamily = some .familyB ∧
    ({ flash with dev := some ⟨.unknown, 0, ""⟩, cfg := { cfg with unknownPolicy := .treatAsA } } : State).knownFamily =
      some .familyA := by decide

/-- A device found Unknown, one found and one identified before, and each with the other Unknown. -/
theorem witness_IdentifyResult :
    bus.Ready ∧ bus.cfg.Wf ∧ bus.OkFor 8 ∧ bus.freshDevice.family = .unknown ∧ bus.cfg.unknownPolicy = .refuse ∧
    flash.Ready ∧ flash.OkFor 8 ∧ flash.freshDevice.family = .unknown ∧ flash.identified.family = .familyA ∧
    board.Ready ∧ board.OkFor 8 ∧ board.freshDevice.family = .familyA ∧
    ({ board with dev := some ⟨.unknown, 0, ""⟩ } : State).identified.family = .unknown ∧
    ({ board with dev := some ⟨.unknown, 0, ""⟩ } : State).freshDevice.family = .familyA := by decide

/-- Without a mark, with one, and on a target. -/
theorem witness_SingleFrameCommands :
    flash.Ready ∧ (flash.flashHazards .plain).OkFor 2 ∧ flash.cfg.flashResetFrame ≠ [] ∧ outside.Ready ∧
    (outside.flashHazards .plain).OkFor 2 ∧ (outside.flashHazards .plain).hz ≠ {} ∧ board.Ready ∧
    (board.flashHazards .plain).target.isSome = true ∧ (board.flashHazards .plain).OkFor 2 := by decide

theorem witness_FlashRegisterReads :
    flash.Ready ∧ (flash.flashHazards .poll).OkFor 2 ∧ (flash.flashHazards .plain).OkFor 2 ∧
    (outside.flashHazards .poll).OkFor 2 ∧ (board.flashHazards .poll).target.isSome = true := by decide

theorem witness_StatusRegisterWrites :
    flash.Ready ∧ ((flash.flashHazards .plain).writeEnableHazard).OkFor 2 ∧
    ({ board with weIssued := true } : State).Ready ∧
    ((({ board with weIssued := true } : State).flashHazards .plain).writeEnableHazard).target.isSome = true := by decide

theorem witness_EraseCommands :
    flash.Ready ∧ (flash.flashHazards .plain).OkFor 4 ∧ (outside.flashHazards .plain).OkFor 4 ∧
    (board.flashHazards .plain).OkFor 4 := by decide

/-- The last byte of a page, and the first of one. -/
theorem witness_PageProgramCommand :
    flash.Ready ∧ (flash.flashHazards .plain).OkFor 5 ∧ (outside.flashHazards .plain).OkFor 5 ∧
    pageLenOk flash.cfg 0x0000FF [1].length = true ∧ pageLenOk flash.cfg 0xFFFF00 256 = true := by decide

theorem witness_StreamedReadCommands :
    flash.Ready ∧ (flash.flashHazards .plain).OkFor 2 ∧ (outside.flashHazards .plain).OkFor 2 ∧
    ({ flash with rdOpen := true, tap := .shiftDr } : State).rdOpen = true ∧
    (({ flash with rdOpen := true, tap := .shiftDr } : State).flashHazards .contRead).OkFor 2 ∧
    xferLenOk flash.cfg (1 : Len).toNat = true ∧ xferLenOk flash.cfg (16384 : Len).toNat = true := by decide

/-- A first poll, one that goes on, and one that ends a wait by itself and inside a macro. -/
theorem witness_BusyWait :
    flash.Ready ∧ flash.task = none ∧ (flash.flashHazards .poll).OkFor 2 ∧ (outside.flashHazards .poll).OkFor 2 ∧
    waiting.Ready ∧ waiting.OkFor 2 ∧
    field (·.task) (resume ⟨1, .unprotect, some inMacro⟩ waiting) = some (some ⟨2, .unprotect, some inMacro⟩) ∧
    (({ waiting with rdyCount := 1 } : State).rdyCount + 1 = waiting.cfg.readyDebounce) ∧
    field (fun t => (t.task, t.orch)) (resume ⟨1, .wait, some inMacro⟩ { waiting with rdyCount := 1 }) =
      some (none, .idle) := by decide +kernel

/-- A first poll that does not end the wait, one that does, and a later one that does. -/
theorem witness_UnprotectCommand :
    flash.Ready ∧ flash.task = none ∧ ((flash.flashHazards .plain).writeEnableHazard).OkFor 6 ∧
    field (fun t => t.task.isSome) (exec .fUnprotect flash) = some true ∧
    field (·.task) (exec .fUnprotect { flash with cfg := { cfg with readyDebounce := 1 } }) = some none ∧
    waiting.Ready ∧ waiting.OkFor 4 ∧ ({ waiting with rdyCount := 1 } : State).rdyCount + 1 = waiting.cfg.readyDebounce ∧
    ((({ waiting with rdyCount := 1 } : State).spiRx [] waiting.tap [0x05, 0]).getD 1 0).getLsbD waiting.cfg.busyBit =
      false ∧
    field (fun t => (t.task, t.orch)) (resume ⟨1, .unprotect, some inMacro⟩ { waiting with rdyCount := 1 }) =
      some (none, .idle) := by decide +kernel

theorem witness_SimpleConfigurationCommands :
    flash.Ready ∧ flash.cfg.Wf ∧ flash.knownFamily = some .familyA ∧ flash.OkFor 6 := by decide

theorem witness_BurstCommands :
    flash.Ready ∧ flash.OkFor 3 ∧ flash.knownFamily = some .familyA ∧ flash.cfg.Wf ∧
    ({ flash with burstOpen := true, tap := .captureDr } : State).burstOpen = true ∧ xferLenOk flash.cfg [0].length = true := by
  decide

theorem witness_PassthroughCommand :
    flash.Ready ∧ flash.cfg.Wf ∧ flash.knownFamily = some .familyA ∧ flash.OkFor 5 := by decide

theorem witness_SpiFrameRows : flash.Ready ∧ flash.OkFor 2 ∧ flash.writeEnableHazard.OkFor 2 ∧ board.OkFor 2 := by decide

theorem witness_SpiHeldRows :
    flash.Ready ∧ flash.OkFor 3 ∧ pageLenOk flash.cfg 0x0000FF [1].length = true ∧ 1 ≤ flash.cfg.maxXferBytes := by decide

theorem witness_TapRows : flash.Ready ∧ flash.cfg.Wf ∧ flash.OkFor 2 ∧ flash.knownFamily = some .familyA := by decide

/-- A macro that ends, and one that waits. -/
theorem witness_MacrosReachTheirFirstWait :
    (board.Ready ∧ board.cfg.Wf ∧ board.task = none ∧ (Instr.mRead 0 1 0).WellFormed board.cfg ∧
      (Instr.mErase 0 1 0 0).WellFormed board.cfg ∧ board.identified.family ≠ .unknown ∧
      board.cfg.readChunk ≤ board.cfg.maxXferBytes ∧ 2 ≤ board.cfg.readyDebounce ∧ board.OkThrough 1000) ∧
    (Instr.mRead 0 1 0).expansion board.cfg = some (.read, planRead cfg 0 1 0) ∧
    (Instr.mErase 0 1 0 0).expansion board.cfg = some (.erase, planErase cfg 0 1 .g4K 0) ∧
    (firstWait (planRead cfg 0 1 0)).isNone ∧ (firstWait (planErase cfg 0 1 .g4K 0)).isSome := by decide

/-- The same on a bridge alone, family Unknown treated as A. -/
theorem witness_MacrosReachTheirFirstWait_alone :
    ({ bus with cfg := { cfg with unknownPolicy := .treatAsA } } : State).OkThrough 6 ∧ bus.identified.family = .unknown ∧
    (Instr.mIdentify).expansion cfg = some (.identify, planIdentify) ∧ (firstWait planIdentify).isNone := by decide

/-- A macro that the family Unknown stops, and a macro and a wait that a failed answer stops, at the first and the second. -/
theorem witness_MacrosReachTheirFirstWait_stops :
    (bus.Ready ∧ bus.cfg.Wf ∧ bus.OkFor 4 ∧ bus.identified.family = .unknown ∧ bus.cfg.unknownPolicy = .refuse ∧
      MacroKind.read ≠ .identify) ∧
    ((hearing flash [failed]).target = none ∧ ((hearing flash [failed]).answerAt 0).ok = false ∧
    ((hearing flash [ok [], failed]).answerAt 0).ok = true ∧ ((hearing flash [ok [], failed]).answerAt 1).ok = false ∧
      PlanOk inMacro.rest) ∧
    (field (fun t => (t.err, t.drawn, t.results)) (exec (.mRead 0 1 0) (hearing flash [ok [], failed])) =
      some (true, 2, [failedResult .transport]) ∧
    field (fun t => (t.err, t.drawn, t.orch)) (resume ⟨1, .wait, some inMacro⟩ (hearing waiting [ok [], failed])) =
      some (true, 2, .idle)) :=
  ⟨by decide, by decide +kernel, by decide +kernel⟩

theorem witness_MacrosRaiseNoHazard :
    Instr.mIdentify.isMacro = true ∧ board.task = none ∧ board.mustPoll = false ∧
    field (·.hz) (untilIdle 0 (exec .mIdentify bus)) = some {} := by decide

theorem witness_SramImageIsOneShift :
    board.Ready ∧ board.cfg.Wf ∧ optsOk refreshOnly 0x01 = true ∧ board.identified.family ≠ .unknown ∧
    board.OkFor (6 * (planLoadSram board.cfg [1, 2] 1).length) ∧ board.OkFor (6 * (planLoadSram board.cfg [] 0).length) := by
  decide

/-- A chip erase that changes a byte, and one that leaves it. -/
theorem witness_StoresFollowTheWire :
    (given board (.host ⟨0x38, none, []⟩)).HazardFree ∧ board.flashAt 0x10FE = some 0x11 ∧
    field (fun t => (t.flashAt 0x10FE, t.flashAt 0)) (step (given board (.host ⟨0x38, none, []⟩))) =
      some (some 0xFF, some 0xFF) ∧ board.flashAt 0 = some 0xFF := by decide

/-- A ready flash, and addresses at the top of the space. -/
theorem witness_FlashEffects :
    board.Inv ∧ board.Ready ∧ board.FlashReady chip ∧ pageLenOk board.cfg 0xFFFFFF [1].length = true ∧
    board.cfg.pageSize ≤ 256 ∧ [(1 : Byte)][0]? = some 1 :=
  ⟨witness_inv_board, by decide, by decide, by decide, by decide, rfl⟩

theorem witness_StreamedReadOnTarget :
    board.Ready ∧ board.cfg.Wf ∧ board.FlashReady chip ∧ xferLenOk board.cfg (1 : Len).toNat = true :=
  ⟨by decide, by decide, by decide, by decide⟩

theorem witness_ReadingAt :
    ({ board with rdOpen := true, tap := .shiftDr, target := some { chip with frame := revBuf [3, 0xFF, 0xFF, 0xFF, 0] } } :
      State).ReadingAt 0xFFFFFF 1 := ⟨rfl, rfl, rfl, rfl, rfl, _, rfl, rfl, rfl, rfl⟩

theorem witness_WaitsEndWhenReady :
    (busy.Ready ∧ busy.cfg.Wf ∧ busy.task = none ∧ busy.cfg.busyBit = 0 ∧ busy.tap ≠ .shiftDr ∧ busy.HazardFree ∧
      busy.pt = true) ∧
    (busy.target.map (·.mode)) = some .passthrough ∧ waiting.Ready ∧ waiting.cfg.Wf ∧ waiting.target = none ∧
    (∀ j < 2 * 2, ((hearing waiting (List.replicate 4 (ok [0, 0x80]))).answerAt j).ok = true ∧
      ∃ b, ((hearing waiting (List.replicate 4 (ok [0, 0x80]))).answerAt j).rx[1]? = some b ∧
        (rev8 b).getLsbD waiting.cfg.busyBit = true) := by
  refine ⟨by decide, rfl, by decide, by decide, rfl, fun j hj => ?_⟩
  match j, hj with
  | 0, _ => exact ⟨rfl, 0x80, rfl, by decide⟩
  | 1, _ => exact ⟨rfl, 0x80, rfl, by decide⟩
  | 2, _ => exact ⟨rfl, 0x80, rfl, by decide⟩
  | 3, _ => exact ⟨rfl, 0x80, rfl, by decide⟩

/-- A session that has identified the device, and one that has not. -/
theorem witness_ReadAndVerifyOnTarget :
    (board.Ready ∧ board.cfg.Wf ∧ board.OnTarget chip) ∧ ({ board with dev := none } : State).OnTarget chip ∧
    (ResetIsNoOpcode board.cfg ∧ board.cfg.readChunk ≤ board.cfg.maxXferBytes ∧
      (Instr.mRead 0xFFFFFF 1 0).WellFormed board.cfg ∧ (Instr.mRead 0 0 0).WellFormed board.cfg ∧
      (Instr.mVerify 0xFFFFFF [1] 0).WellFormed board.cfg) ∧
    board.flashAt 0x10FE = [(0x11 : Byte)][0]? ∧ board.flashAt 0x10FF ≠ [(0x11 : Byte), 0x23][1]? :=
  ⟨by decide, by decide, by decide, by decide, by decide⟩

theorem witness_EraseOnTarget :
    board.Inv ∧ board.Ready ∧ board.task = none ∧ board.OnTarget chip ∧ board.cfg.busyBit = 0 ∧ ResetIsNoOpcode board.cfg ∧
    granOf 2 = some .g64K ∧ board.cfg.eraseSize .g64K ≤ 2 ^ 24 ∧ (Instr.mErase 0xFFFFFF 1 2 1).WellFormed board.cfg :=
  ⟨witness_inv_board, by decide⟩

/-- With every option: an erase, none, a bulk erase, no comparison. -/
theorem witness_ProgramOnTarget :
    board.Inv ∧ (board.Ready ∧ board.task = none ∧ board.OnTarget chip ∧ board.cfg.busyBit = 0 ∧ ResetIsNoOpcode board.cfg ∧
      granOf 0 = some .g4K ∧ board.cfg.eraseSize .g4K ≤ 2 ^ 24 ∧ board.cfg.pageSize ≤ 256 ∧
      board.cfg.readChunk ≤ board.cfg.maxXferBytes) ∧
    (∀ opts ∈ ([0x07, 0x00, 0x08, 0x10, 0x18, 0x1B] : List Byte),
      (Instr.mProgram 0xFFFFFF 0 [1] opts).WellFormed board.cfg) ∧
    optNoErase 0x08 = true ∧ optBulk 0x07 = true ∧ optNoVerify 0x10 = true ∧ optNoErase 0x00 = false :=
  ⟨witness_inv_board, by decide, by decide, by decide⟩

end Sys2Proof.Tests
end

section
/-! SUPPORT. What a command in progress can do to the state: a sequence of the updates below, each a TAP primitive
(10_state.md R44 to R46, R48) or a ghost update of the commands' rules. What every update keeps, every command keeps. -/

namespace Sys2Proof.Machine

/-! ## The updates -/

/-- One update of the state by a command in progress, with the conditions under which it is made. -/
inductive Update : State → State → Prop
  /-- `TapGoTo`, answered Ok (10_state.md R44). -/
  | moved {s : State} (dst : TapState) (herr : s.err = false) (htap : s.tap ≠ dst) (hok : s.driverOk = true) :
      Update s ((((s.emit (.goTo dst)).advance).targetGoTo dst).arrive dst)
  /-- `TapGoTo`, answered Fail (R44, 60_exceptions.md R333). -/
  | moveFailed {s : State} (dst : TapState) (herr : s.err = false) (htap : s.tap ≠ dst) (hfail : s.driverOk = false) :
      Update s ((s.emit (.goTo dst)).advance).fail
  /-- `TapShift`, answered Ok (10_state.md R45). -/
  | shifted {s : State} (reg : Reg) (tx : List Byte) (n : Nat) (exit : Bool) (herr : s.err = false)
      (hreg : shiftReg s.tap = some reg) (hlen : n % 8 = 0 ∧ tx.length = n / 8) (hok : s.driverOk = true) :
      Update s
        (let u := ((s.emit (.shift reg tx n exit (s.shiftRx reg tx))).advance).targetShift reg tx exit
         if exit then u.exitShift reg else u)
  /-- `TapShift`, answered Fail (R45, 60_exceptions.md R333). -/
  | shiftFailed {s : State} (reg : Reg) (tx : List Byte) (n : Nat) (exit : Bool) (herr : s.err = false)
      (hreg : shiftReg s.tap = some reg) (hlen : n % 8 = 0 ∧ tx.length = n / 8) (hfail : s.driverOk = false) :
      Update s ((s.emit (.shift reg tx n exit (s.shiftRx reg tx))).advance).fail
  /-- `TapSettle`, answered Ok (10_state.md R46). -/
  | settled {s : State} (cycles : Nat) (herr : s.err = false) (htap : s.tap = .runTestIdle) (hok : s.driverOk = true) :
      Update s (s.emit (.settle cycles)).advance
  /-- `TapSettle`, answered Fail (R46, 60_exceptions.md R333). -/
  | settleFailed {s : State} (cycles : Nat) (herr : s.err = false) (htap : s.tap = .runTestIdle)
      (hfail : s.driverOk = false) : Update s ((s.emit (.settle cycles)).advance).fail
  /-- `Delay` between two polls (10_state.md R48, 43_flash_commands.md R218). -/
  | delayed {s : State} (t : Nat) : Update s (s.emit (.delay t))
  /-- A TAP instruction was loaded (44_config_sequencer.md R260). -/
  | instructionLoaded {s : State} : Update s { s with pt := false }
  /-- The unlock sequence was sent (R258). -/
  | passthroughEntered {s : State} : Update s { s with pt := true }
  /-- The device was identified (42_identity_status.md R173). -/
  | deviceRead {s : State} (info : DeviceInfo) : Update s { s with dev := s.dev <|> some info }
  /-- A burst was opened (44_config_sequencer.md R256). -/
  | burstOpened {s : State} (htap : s.tap = .captureDr) : Update s { s with burstOpen := true }
  /-- A streamed read was opened (43_flash_commands.md R216). -/
  | readOpened {s : State} (htap : s.tap = .shiftDr) : Update s { s with rdOpen := true }
  /-- A streamed read was ended by `SPI_XFER` (41_spi_bridge.md R155). -/
  | readEnded {s : State} : Update s { s with rdOpen := false }
  /-- The marks of a flash command's prologue (43_flash_commands.md R200). -/
  | prologueMarked {s : State} (k : FlashKind) : Update s (s.flashHazards k)
  /-- The mark of a status-register write frame (R223). -/
  | writeMarked {s : State} : Update s s.writeEnableHazard
  /-- The ghost fields after a flash frame (R223). -/
  | frameSent {s : State} (n : FlashName) : Update s (s.afterFrame n)
  /-- The debounce counter of a busy wait (R218, 10_state.md R52). -/
  | pollCounted {s : State} (count : Nat) : Update s { s with rdyCount := count }
  /-- A satisfied poll (43_flash_commands.md R218). -/
  | waitSatisfied {s : State} : Update s { s with rdyCount := 0, mustPoll := false }
  /-- A phase of the orchestrator (45_orchestrator.md R280). -/
  | phaseEntered {s : State} (o : OrchState) : Update s (s.enterPhase o)
  /-- The result of a sub-command (10_state.md R53). -/
  | subCommandEnded {s : State} (kind : ResultKind) (data : ResultData) : Update s (s.setResult ⟨kind, .none, data⟩)

/-- Any number of updates, one after another. -/
inductive Updates (s : State) : State → Prop
  | refl : Updates s s
  | tail {t u : State} (hinit : Updates s t) (hlast : Update t u) : Updates s u

theorem Updates.single {s t : State} (h : Update s t) : Updates s t := Updates.refl.tail h

theorem Updates.trans {s t u : State} (h : Updates s t) (k : Updates t u) : Updates s u := by
  induction k with
  | refl => exact h
  | tail _ hlast ih => exact ih.tail hlast

/-- The state a command leaves, whether it goes on or stops: nothing is rolled back (60_exceptions.md R330). -/
def endState {α : Type} : EStateM.Result Stop State α → State
  | .ok _ t => t
  | .error _ t => t

@[simp] theorem endState_ok {α : Type} (a : α) (t : State) : endState (.ok a t) = t := rfl
@[simp] theorem endState_error {α : Type} (e : Stop) (t : State) :
    endState (.error e t : EStateM.Result Stop State α) = t := rfl

/-- A command changes the state by updates alone. -/
def MakesUpdates {α : Type} (b : Bridge α) : Prop := ∀ s, Updates s (endState (b s))

/-! ## The connectives -/

section
variable {α β : Type} {x : Bridge α} {f : α → Bridge β}

/-- A sequence whose rest makes updates from every state that its first part can leave. -/
theorem MakesUpdates.bind_of_ok (hx : MakesUpdates x)
    (hf : ∀ s a t, x s = .ok a t → Updates t (endState (f a t))) : MakesUpdates (x >>= f) := by
  intro s
  have hs := hx s
  rw [bind_run]
  cases h : x s with
  | ok a t =>
    rw [h] at hs
    exact hs.trans (hf s a t h)
  | error e t =>
    rw [h] at hs
    exact hs

theorem MakesUpdates.bind (hx : MakesUpdates x) (hf : ∀ a, MakesUpdates (f a)) : MakesUpdates (x >>= f) :=
  hx.bind_of_ok fun _ a t _ => hf a t

theorem MakesUpdates.ite {p : Prop} [Decidable p] {y : Bridge α} (hx : MakesUpdates x) (hy : MakesUpdates y) :
    MakesUpdates (if p then x else y) := by
  split
  · exact hx
  · exact hy

theorem makesUpdates_pure (a : α) : MakesUpdates (pure a : Bridge α) := fun _ => .refl
theorem makesUpdates_throw (e : Stop) : MakesUpdates (throw e : Bridge α) := fun _ => .refl
theorem makesUpdates_raise (k : ResultKind) (r : Reason) : MakesUpdates (raise k r : Bridge α) := fun _ => .refl
theorem makesUpdates_refuse (r : Reason) : MakesUpdates (refuse r : Bridge α) := fun _ => .refl
theorem makesUpdates_get : MakesUpdates (get : Bridge State) := fun _ => .refl
theorem makesUpdates_done (d : ResultData) : MakesUpdates (done d) := fun _ => .refl

theorem makesUpdates_modify {g : State → State} (h : ∀ s, Update s (g s)) : MakesUpdates (modify g : Bridge Unit) :=
  fun s => .single (h s)

end

/-! ## Primitives and checks -/

theorem tapGoTo_updates (dst : TapState) : MakesUpdates (tapGoTo dst) := by
  intro s
  rcases tapGoTo_cases dst s with ⟨-, h⟩ | ⟨-, -, h⟩ | ⟨herr, htap, hok, h⟩ | ⟨herr, htap, hfail, h⟩ <;> rw [h]
  · exact .refl
  · exact .refl
  · exact .single (.moved dst herr htap hok)
  · exact .single (.moveFailed dst herr htap hfail)

theorem tapShift_updates (tx : List Byte) (n : Nat) (exit : Bool) : MakesUpdates (tapShift tx n exit) := by
  intro s
  rcases tapShift_cases tx n exit s with ⟨-, h⟩ | ⟨-, -, h⟩ | ⟨-, -, -, h⟩ | ⟨reg, herr, hreg, hlen, hok, h⟩ |
    ⟨reg, herr, hreg, hlen, hfail, h⟩ <;> rw [h]
  · exact .refl
  · exact .refl
  · exact .refl
  · exact .single (.shifted reg tx n exit herr hreg hlen hok)
  · exact .single (.shiftFailed reg tx n exit herr hreg hlen hfail)

theorem tapSettle_updates (cycles : Nat) : MakesUpdates (tapSettle cycles) := by
  intro s
  rcases tapSettle_cases cycles s with ⟨-, h⟩ | ⟨-, -, h⟩ | ⟨herr, htap, hok, h⟩ | ⟨herr, htap, hfail, h⟩ <;> rw [h]
  · exact .refl
  · exact .refl
  · exact .single (.settled cycles herr htap hok)
  · exact .single (.settleFailed cycles herr htap hfail)

theorem require_updates (b : Bool) (r : Reason) : MakesUpdates (require b r) :=
  .ite (makesUpdates_pure ()) (makesUpdates_refuse r)

theorem checkSession_updates : MakesUpdates checkSession :=
  makesUpdates_get.bind fun _ => .ite (makesUpdates_refuse _) (makesUpdates_pure ())

theorem checkSticky_updates : MakesUpdates checkSticky :=
  makesUpdates_get.bind fun _ => .ite (makesUpdates_raise _ _) (makesUpdates_pure ())

theorem checks_updates (lenOk : Bool) : MakesUpdates (checks lenOk) :=
  checkSession_updates.bind fun _ => (require_updates _ _).bind fun _ => checkSticky_updates

theorem macroChecks_updates (optionsOk rangeOk lengthOk : Bool) : MakesUpdates (macroChecks optionsOk rangeOk lengthOk) :=
  checkSession_updates.bind fun _ => (require_updates _ _).bind fun _ => (require_updates _ _).bind fun _ =>
    require_updates _ _

/-! ## Where a move and a held shift leave the TAP -/

theorem tap_of_tapGoTo_ok {dst : TapState} {s t : State} {a : Unit} (h : tapGoTo dst s = .ok a t) : t.tap = dst := by
  rcases tapGoTo_cases dst s with ⟨-, h'⟩ | ⟨-, htap, h'⟩ | ⟨-, -, -, h'⟩ | ⟨-, -, -, h'⟩ <;> rw [h'] at h <;> cases h
  · exact htap
  · simp

theorem tap_of_tapShift_ok {tx rx : List Byte} {n : Nat} {s t : State} (h : tapShift tx n false s = .ok rx t) :
    t.tap = s.tap := by
  rcases tapShift_cases tx n false s with ⟨-, h'⟩ | ⟨-, -, h'⟩ | ⟨-, -, -, h'⟩ | ⟨reg, -, -, -, -, h'⟩ |
    ⟨reg, -, -, -, -, h'⟩ <;> rw [h'] at h <;> cases h
  simp

theorem tap_of_streamSPI_ok {frame rx : List Byte} {s t : State} (h : streamSPI frame s = .ok rx t) :
    t.tap = .shiftDr := by
  unfold streamSPI at h
  obtain ⟨_, s₁, -, h⟩ := bind_eq_ok.mp h
  obtain ⟨_, s₂, hmove, h⟩ := bind_eq_ok.mp h
  obtain ⟨_, s₃, hshift, h⟩ := bind_eq_ok.mp h
  cases h
  exact (tap_of_tapShift_ok hshift).trans (tap_of_tapGoTo_ok hmove)

theorem tap_of_sendHeader_ok {n : FlashName} {a : Addr} {s t : State} {u : Unit} (h : sendHeader n a s = .ok u t) :
    t.tap = .shiftDr := by
  unfold sendHeader at h
  obtain ⟨_, s₁, -, h⟩ := bind_eq_ok.mp h
  obtain ⟨_, s₂, hstream, h⟩ := bind_eq_ok.mp h
  cases h
  exact tap_of_streamSPI_ok hstream

/-! ## Identity, status and configuration -/

theorem irLoad_updates (code : Byte) (len : Nat) : MakesUpdates (irLoad code len) :=
  (tapGoTo_updates _).bind fun _ => (tapShift_updates _ _ _).bind fun _ =>
    makesUpdates_modify fun _ => .instructionLoaded

theorem drRead_updates (bits : Nat) : MakesUpdates (drRead bits) :=
  (tapGoTo_updates _).bind fun _ => tapShift_updates _ _ _

theorem cfgFamily_updates : MakesUpdates cfgFamily := by
  refine makesUpdates_get.bind fun s => ?_
  cases s.dev with
  | none => exact makesUpdates_refuse _
  | some d =>
    refine .ite ?_ (makesUpdates_pure _)
    cases s.cfg.unknownPolicy with
    | refuse => exact makesUpdates_refuse _
    | treatAsA => exact makesUpdates_pure _

theorem cmdReadIdcode_updates : MakesUpdates cmdReadIdcode :=
  (checks_updates _).bind fun _ => makesUpdates_get.bind fun _ => (irLoad_updates _ _).bind fun _ =>
    (drRead_updates _).bind fun _ => (makesUpdates_modify fun _ => .deviceRead _).bind fun _ => makesUpdates_done _

theorem cmdReadStatus_updates : MakesUpdates cmdReadStatus :=
  (checks_updates _).bind fun _ => cfgFamily_updates.bind fun _ => makesUpdates_get.bind fun _ =>
    (irLoad_updates _ _).bind fun _ => (drRead_updates _).bind fun _ => makesUpdates_done _

theorem sendParam_updates (p : Option Byte) : MakesUpdates (sendParam p) := by
  cases p with
  | none => exact makesUpdates_pure ()
  | some b => exact (tapGoTo_updates _).bind fun _ => (tapShift_updates _ _ _).bind fun _ => makesUpdates_pure ()

theorem simpleCfg_updates (n : IrName) : MakesUpdates (simpleCfg n) :=
  (checks_updates _).bind fun _ => cfgFamily_updates.bind fun _ => makesUpdates_get.bind fun _ =>
    (irLoad_updates _ _).bind fun _ => (sendParam_updates _).bind fun _ => (tapGoTo_updates _).bind fun _ =>
      (tapSettle_updates _).bind fun _ => makesUpdates_done _

theorem cmdCBurst_updates : MakesUpdates cmdCBurst := by
  refine (checks_updates _).bind fun _ => cfgFamily_updates.bind fun _ => makesUpdates_get.bind fun _ =>
    (irLoad_updates _ _).bind fun _ => (tapGoTo_updates .captureDr).bind_of_ok fun s a t h => ?_
  exact .single (.burstOpened (tap_of_tapGoTo_ok h))

theorem cmdCBurstData_updates (data : List Byte) : MakesUpdates (cmdCBurstData data) :=
  makesUpdates_get.bind fun _ => (checks_updates _).bind fun _ => makesUpdates_get.bind fun _ =>
    (require_updates _ _).bind fun _ => (tapGoTo_updates _).bind fun _ => (tapShift_updates _ _ _).bind fun _ =>
      makesUpdates_done _

theorem cmdCPassthrough_updates : MakesUpdates cmdCPassthrough :=
  (checks_updates _).bind fun _ => cfgFamily_updates.bind fun _ => makesUpdates_get.bind fun _ =>
    (irLoad_updates _ _).bind fun _ => (tapGoTo_updates _).bind fun _ => (tapShift_updates _ _ _).bind fun _ =>
      (tapGoTo_updates _).bind fun _ => (makesUpdates_modify fun _ => .passthroughEntered).bind fun _ =>
        makesUpdates_done _

/-! ## The SPI bridge -/

theorem assertFrame_updates (frame : List Byte) : MakesUpdates (assertFrame frame) :=
  .ite (makesUpdates_throw _) (makesUpdates_pure ())

theorem transactSPI_updates (frame : List Byte) : MakesUpdates (transactSPI frame) := by
  have hshift : MakesUpdates (do
      let raw ← tapShift (revBuf frame) (8 * frame.length) true
      return revBuf raw) := (tapShift_updates _ _ _).bind fun _ => makesUpdates_pure _
  refine (assertFrame_updates frame).bind fun _ => MakesUpdates.bind (x := tapState) (fun _ => .refl) fun _ => ?_
  exact .ite ((tapGoTo_updates _).bind fun _ => hshift) hshift

theorem streamSPI_updates (frame : List Byte) : MakesUpdates (streamSPI frame) :=
  (assertFrame_updates frame).bind fun _ => (tapGoTo_updates _).bind fun _ => (tapShift_updates _ _ _).bind fun _ =>
    makesUpdates_pure _

theorem cmdSpiXfer_updates (data : List Byte) : MakesUpdates (cmdSpiXfer data) :=
  makesUpdates_get.bind fun _ => (checks_updates _).bind fun _ => (transactSPI_updates _).bind fun _ =>
    (makesUpdates_modify fun _ => .readEnded).bind fun _ => makesUpdates_done _

theorem cmdSpiStream_updates (data : List Byte) : MakesUpdates (cmdSpiStream data) :=
  makesUpdates_get.bind fun _ => (checks_updates _).bind fun _ => (streamSPI_updates _).bind fun _ =>
    makesUpdates_done _

theorem cmdSpiEnd_updates : MakesUpdates cmdSpiEnd :=
  (checks_updates _).bind fun _ => (tapGoTo_updates _).bind fun _ => makesUpdates_done _

/-! ## Flash commands -/

theorem flashPrologue_updates (k : FlashKind) (lenOk : Bool) : MakesUpdates (flashPrologue k lenOk) :=
  (checks_updates _).bind fun _ => makesUpdates_get.bind fun _ => (require_updates _ _).bind fun _ =>
    makesUpdates_modify fun _ => .prologueMarked k

theorem sendFrame_updates (n : FlashName) (operands : List Byte) : MakesUpdates (sendFrame n operands) :=
  makesUpdates_get.bind fun _ => (transactSPI_updates _).bind fun _ =>
    (makesUpdates_modify fun _ => .frameSent n).bind fun _ => makesUpdates_pure _

theorem sendHeader_updates (n : FlashName) (a : Addr) : MakesUpdates (sendHeader n a) :=
  makesUpdates_get.bind fun _ => (streamSPI_updates _).bind fun _ => makesUpdates_pure _

theorem sendRegisterWrite_updates (n : FlashName) (v : Byte) : MakesUpdates (sendRegisterWrite n v) :=
  (makesUpdates_modify fun _ => .writeMarked).bind fun _ => (sendFrame_updates _ _).bind fun _ => makesUpdates_pure _

theorem sendPage_updates (a : Addr) (data : List Byte) : MakesUpdates (sendPage a data) :=
  (sendHeader_updates _ _).bind fun _ => (transactSPI_updates _).bind fun _ =>
    makesUpdates_modify fun _ => .frameSent .pp

theorem sendRdid_updates : MakesUpdates sendRdid :=
  makesUpdates_get.bind fun _ => (sendFrame_updates _ _).bind fun _ => makesUpdates_pure _

theorem openRead_updates (a : Addr) : MakesUpdates (openRead a) :=
  (sendHeader_updates _ _).bind_of_ok fun _ _ _ h => .single (.readOpened (tap_of_sendHeader_ok h))

/-- A flash command that sends one frame, whatever it answers of the response (43_flash_commands.md R201 to R205). -/
theorem prologue_sendFrame_updates (k : FlashKind) (n : FlashName) (operands : List Byte) (d : List Byte → ResultData) :
    MakesUpdates (do
      flashPrologue k true
      let rx ← sendFrame n operands
      done (d rx)) :=
  (flashPrologue_updates _ _).bind fun _ => (sendFrame_updates _ _).bind fun _ => makesUpdates_done _

theorem cmdFWren_updates : MakesUpdates cmdFWren := prologue_sendFrame_updates _ _ _ fun _ => .none

theorem cmdFWrdi_updates : MakesUpdates cmdFWrdi := prologue_sendFrame_updates _ _ _ fun _ => .none

theorem readRegister_updates (k : FlashKind) (n : FlashName) : MakesUpdates (readRegister k n) :=
  prologue_sendFrame_updates k n [0x00] fun rx => .byte (registerByte rx)

theorem writeRegister_updates (n : FlashName) (v : Byte) : MakesUpdates (writeRegister n v) :=
  (flashPrologue_updates _ _).bind fun _ => (sendRegisterWrite_updates _ _).bind fun _ => makesUpdates_done _

theorem eraseFrames_updates (n : FlashName) (operands : List Byte) : MakesUpdates (eraseFrames n operands) :=
  (flashPrologue_updates _ _).bind fun _ => (sendFrame_updates _ _).bind fun _ => (sendFrame_updates _ _).bind fun _ =>
    makesUpdates_done _

theorem cmdFPp_updates (a : Addr) (data : List Byte) : MakesUpdates (cmdFPp a data) :=
  makesUpdates_get.bind fun _ => (flashPrologue_updates _ _).bind fun _ => (sendFrame_updates _ _).bind fun _ =>
    (sendPage_updates _ _).bind fun _ => makesUpdates_done _

theorem cmdFRdid_updates : MakesUpdates cmdFRdid :=
  (flashPrologue_updates _ _).bind fun _ => sendRdid_updates.bind fun _ => makesUpdates_done _

theorem cmdFRead_updates (a : Addr) : MakesUpdates (cmdFRead a) :=
  (flashPrologue_updates _ _).bind fun _ => (openRead_updates _).bind fun _ => makesUpdates_done _

theorem cmdFContRead_updates (n : Len) : MakesUpdates (cmdFContRead n) :=
  makesUpdates_get.bind fun _ => (flashPrologue_updates _ _).bind fun _ => (streamSPI_updates _).bind fun _ =>
    makesUpdates_done _

theorem cmdFReset_updates : MakesUpdates cmdFReset :=
  (flashPrologue_updates _ _).bind fun _ => makesUpdates_get.bind fun _ => (transactSPI_updates _).bind fun _ =>
    makesUpdates_done _

/-! ## The busy wait -/

theorem waitPoll_updates (polls : Nat) : MakesUpdates (waitPoll polls) := by
  intro s
  have hframe := sendFrame_updates .rdsr1 [0x00] s
  cases h : sendFrame .rdsr1 [0x00] s with
  | error e u =>
    rw [h] at hframe
    rw [waitPoll_failed polls h]
    exact hframe.tail (.pollCounted 0)
  | ok rx u =>
    rw [h] at hframe
    by_cases hc : debounce u.rdyCount (!(registerByte rx).getLsbD u.cfg.busyBit) = u.cfg.readyDebounce
    · rw [waitPoll_satisfied polls h hc]
      exact hframe.tail .waitSatisfied
    · rw [waitPoll_unsatisfied polls h hc]
      exact (hframe.tail (.pollCounted _)).tail (.delayed _)

theorem afterWait_updates (cmd : WaitCmd) (polls : Nat) : MakesUpdates (afterWait cmd polls) := by
  cases cmd with
  | wait => exact makesUpdates_done _
  | unprotect => exact (sendFrame_updates _ _).bind fun _ => makesUpdates_done _

theorem waitRound_updates (cmd : WaitCmd) (polls : Nat) : MakesUpdates (waitRound cmd polls) := by
  refine (waitPoll_updates polls).bind fun p => ?_
  cases p with
  | satisfied n => exact afterWait_updates cmd n
  | unsatisfied n => exact makesUpdates_pure _

theorem startWait_updates (cmd : WaitCmd) : MakesUpdates (startWait cmd) :=
  (makesUpdates_modify fun _ => .pollCounted 0).bind fun _ => waitRound_updates cmd 0

theorem cmdFWait_updates : MakesUpdates cmdFWait :=
  (flashPrologue_updates _ _).bind fun _ => startWait_updates _

theorem cmdFUnprotect_updates : MakesUpdates cmdFUnprotect :=
  (flashPrologue_updates _ _).bind fun _ => (sendRegisterWrite_updates _ _).bind fun _ => startWait_updates _

/-! ## Bare frames -/

theorem frameRow_updates (n : FlashName) (operands : List Byte) : MakesUpdates (frameRow n operands) :=
  (checks_updates _).bind fun _ => (sendFrame_updates _ _).bind fun _ => makesUpdates_done _

theorem readRow_updates (n : FlashName) : MakesUpdates (readRow n) :=
  (checks_updates _).bind fun _ => (sendFrame_updates _ _).bind fun _ => makesUpdates_done _

theorem writeRow_updates (n : FlashName) (v : Byte) : MakesUpdates (writeRow n v) :=
  (checks_updates _).bind fun _ => (sendRegisterWrite_updates _ _).bind fun _ => makesUpdates_done _

theorem cmdOpPp_updates (a : Addr) (data : List Byte) : MakesUpdates (cmdOpPp a data) :=
  makesUpdates_get.bind fun _ => (checks_updates _).bind fun _ => (sendPage_updates _ _).bind fun _ =>
    makesUpdates_done _

theorem cmdOpRdid_updates : MakesUpdates cmdOpRdid :=
  (checks_updates _).bind fun _ => sendRdid_updates.bind fun _ => makesUpdates_done _

theorem cmdOpRead_updates (a : Addr) (count : Nat) : MakesUpdates (cmdOpRead a count) :=
  makesUpdates_get.bind fun _ => (checks_updates _).bind fun _ => (openRead_updates _).bind fun _ =>
    .ite (makesUpdates_done _) ((streamSPI_updates _).bind fun _ => makesUpdates_done _)

theorem irRow_updates (n : IrName) : MakesUpdates (irRow n) :=
  (checks_updates _).bind fun _ => cfgFamily_updates.bind fun _ => makesUpdates_get.bind fun _ =>
    (irLoad_updates _ _).bind fun _ => makesUpdates_done _

theorem cmdIrIdcode_updates : MakesUpdates cmdIrIdcode :=
  (checks_updates _).bind fun _ => makesUpdates_get.bind fun _ => (irLoad_updates _ _).bind fun _ =>
    makesUpdates_done _

/-! ## The orchestrator -/

theorem subCommand_updates (i : Instr) : MakesUpdates (subCommand i) := by
  cases i with
  | spiXfer data => exact cmdSpiXfer_updates data
  | spiStream data => exact cmdSpiStream_updates data
  | spiEnd => exact cmdSpiEnd_updates
  | readIdcode => exact cmdReadIdcode_updates
  | readStatus => exact cmdReadStatus_updates
  | fWren => exact cmdFWren_updates
  | fWrdi => exact cmdFWrdi_updates
  | fRdsr1 | fRdsr2 | fRdsr3 => exact readRegister_updates _ _
  | fWrsr1 v | fWrsr2 v | fWrsr3 v => exact writeRegister_updates _ v
  | fCe | fSe4k a | fBe32k a | fBe64k a => exact eraseFrames_updates _ _
  | fPp a data => exact cmdFPp_updates a data
  | fRdid => exact cmdFRdid_updates
  | fRead a => exact cmdFRead_updates a
  | fContRead n => exact cmdFContRead_updates n
  | fWait => exact cmdFWait_updates
  | fUnprotect => exact cmdFUnprotect_updates
  | fReset => exact cmdFReset_updates
  | cEnable | cErase | cDisable | cResetCrc | cRefresh => exact simpleCfg_updates _
  | cBurst => exact cmdCBurst_updates
  | cBurstData data => exact cmdCBurstData_updates data
  | cPassthrough => exact cmdCPassthrough_updates
  | _ => exact makesUpdates_throw _

theorem finishMacro_updates (k : MacroKind) (n : Notes) : MakesUpdates (finishMacro k n) :=
  (makesUpdates_modify fun _ => .phaseEntered _).bind fun _ => makesUpdates_get.bind fun _ =>
    (makesUpdates_modify fun _ => .phaseEntered _).bind fun _ => makesUpdates_pure _

theorem runPlan_updates (k : MacroKind) (items : List PlanItem) : ∀ n, MakesUpdates (runPlan k items n) := by
  induction items with
  | nil => exact finishMacro_updates k
  | cons item rest ih =>
    intro n
    cases item with
    | enter o => exact (makesUpdates_modify fun _ => .phaseEntered o).bind fun _ => ih n
    | sub i keep =>
      refine (subCommand_updates i).bind fun r => ?_
      cases r with
      | waiting t => exact makesUpdates_pure _
      | ended kind d => exact (makesUpdates_modify fun _ => .subCommandEnded kind d).bind fun _ => ih _
    | statusIfKnown =>
      refine makesUpdates_get.bind fun s => .ite (cmdReadStatus_updates.bind fun r => ?_) (ih n)
      cases r with
      | waiting t => exact makesUpdates_pure _
      | ended kind d => exact (makesUpdates_modify fun _ => .subCommandEnded kind d).bind fun _ => ih _

theorem MakesUpdates.idleOnStop {b : Bridge Flow} (hb : MakesUpdates b) : MakesUpdates (idleOnStop b) := by
  intro s
  have hs := hb s
  unfold Machine.idleOnStop
  cases h : b s with
  | ok f t =>
    rw [h] at hs
    exact hs
  | error e t =>
    rw [h] at hs
    exact hs.tail (.phaseEntered .idle)

theorem runMacro_updates (k : MacroKind) (items : List PlanItem) : MakesUpdates (runMacro k items) :=
  (runPlan_updates k items _).idleOnStop

theorem continueMacro_updates (e : Expansion) (r : Flow) : MakesUpdates (continueMacro e r) := by
  cases r with
  | waiting t => exact makesUpdates_pure _
  | ended kind d =>
    exact (makesUpdates_modify fun _ => .subCommandEnded kind d).bind fun _ => runPlan_updates _ _ _

/-- A command in progress that goes on. -/
theorem resumeTask_updates (t : Task) : MakesUpdates (resumeTask t) := by
  obtain ⟨polls, cmd, outer⟩ := t
  cases outer with
  | none => exact waitRound_updates cmd polls
  | some e => exact ((waitRound_updates cmd polls).bind (continueMacro_updates e)).idleOnStop

theorem cmdMIdentify_updates : MakesUpdates cmdMIdentify :=
  (macroChecks_updates _ _ _).bind fun _ => runMacro_updates _ _

theorem cmdMProbe_updates (opts : Byte) : MakesUpdates (cmdMProbe opts) :=
  (macroChecks_updates _ _ _).bind fun _ => runMacro_updates _ _

theorem cmdMLoadSram_updates (data : List Byte) (opts : Byte) : MakesUpdates (cmdMLoadSram data opts) :=
  (macroChecks_updates _ _ _).bind fun _ => makesUpdates_get.bind fun _ => runMacro_updates _ _

theorem cmdMProgram_updates (offset : Addr) (gran : BitVec 2) (data : List Byte) (opts : Byte) :
    MakesUpdates (cmdMProgram offset gran data opts) :=
  (macroChecks_updates _ _ _).bind fun _ => makesUpdates_get.bind fun _ => runMacro_updates _ _

theorem cmdMRead_updates (offset : Addr) (len : Len) (opts : Byte) : MakesUpdates (cmdMRead offset len opts) :=
  (macroChecks_updates _ _ _).bind fun _ => makesUpdates_get.bind fun _ => runMacro_updates _ _

theorem cmdMErase_updates (offset : Addr) (len : Len) (gran : BitVec 2) (opts : Byte) :
    MakesUpdates (cmdMErase offset len gran opts) :=
  (macroChecks_updates _ _ _).bind fun _ => makesUpdates_get.bind fun _ => runMacro_updates _ _

theorem cmdMVerify_updates (offset : Addr) (data : List Byte) (opts : Byte) :
    MakesUpdates (cmdMVerify offset data opts) :=
  (macroChecks_updates _ _ _).bind fun _ => makesUpdates_get.bind fun _ => runMacro_updates _ _

/-! ## Instructions -/

/-- What the orchestrator runs as a sub-command is the same command as by itself, where its end is answered. -/
theorem exec_eq_commit_subCommand {i : Instr} (h : i.isSubCommand = true) : exec i = commit (subCommand i) := by
  cases i <;> first | rfl | contradiction

/-- Every instruction but the two of the session and the row that is never sent (43_flash_commands.md R222) is a command
that makes updates, and its end is answered. -/
theorem exec_eq_commit {i : Instr} (hopen : i.isSessionOpen = false) (hclose : i.isSessionClose = false)
    (hfast : i ≠ .opFastRead) : ∃ b, MakesUpdates b ∧ exec i = commit b := by
  by_cases hsub : i.isSubCommand = true
  · exact ⟨_, subCommand_updates i, exec_eq_commit_subCommand hsub⟩
  cases i with
  | mIdentify => exact ⟨_, cmdMIdentify_updates, rfl⟩
  | mProbe opts => exact ⟨_, cmdMProbe_updates opts, rfl⟩
  | mLoadSram data opts => exact ⟨_, cmdMLoadSram_updates data opts, rfl⟩
  | mProgram offset gran data opts => exact ⟨_, cmdMProgram_updates offset gran data opts, rfl⟩
  | mRead offset len opts => exact ⟨_, cmdMRead_updates offset len opts, rfl⟩
  | mErase offset len gran opts => exact ⟨_, cmdMErase_updates offset len gran opts, rfl⟩
  | mVerify offset data opts => exact ⟨_, cmdMVerify_updates offset data opts, rfl⟩
  | opWren => exact ⟨_, frameRow_updates .wren [], rfl⟩
  | opWrdi => exact ⟨_, frameRow_updates .wrdi [], rfl⟩
  | opRdsr1 => exact ⟨_, readRow_updates .rdsr1, rfl⟩
  | opRdsr2 => exact ⟨_, readRow_updates .rdsr2, rfl⟩
  | opRdsr3 => exact ⟨_, readRow_updates .rdsr3, rfl⟩
  | opWrsr1 v => exact ⟨_, writeRow_updates .wrsr1 v, rfl⟩
  | opWrsr2 v => exact ⟨_, writeRow_updates .wrsr2 v, rfl⟩
  | opWrsr3 v => exact ⟨_, writeRow_updates .wrsr3 v, rfl⟩
  | opCe => exact ⟨_, frameRow_updates .ce [], rfl⟩
  | opSe4k a => exact ⟨_, frameRow_updates .se4k (be24 a), rfl⟩
  | opBe32k a => exact ⟨_, frameRow_updates .be32k (be24 a), rfl⟩
  | opBe64k a => exact ⟨_, frameRow_updates .be64k (be24 a), rfl⟩
  | opPp a data => exact ⟨_, cmdOpPp_updates a data, rfl⟩
  | opRdid => exact ⟨_, cmdOpRdid_updates, rfl⟩
  | opRead a count => exact ⟨_, cmdOpRead_updates a count, rfl⟩
  | irIdcode => exact ⟨_, cmdIrIdcode_updates, rfl⟩
  | irStatus => exact ⟨_, irRow_updates .status, rfl⟩
  | irEnable => exact ⟨_, irRow_updates .enable, rfl⟩
  | irErase => exact ⟨_, irRow_updates .erase, rfl⟩
  | irDisable => exact ⟨_, irRow_updates .disable, rfl⟩
  | irResetCrc => exact ⟨_, irRow_updates .resetCrc, rfl⟩
  | irBurst => exact ⟨_, irRow_updates .burst, rfl⟩
  | irRefresh => exact ⟨_, irRow_updates .refresh, rfl⟩
  | irPassthrough => exact ⟨_, irRow_updates .passthrough, rfl⟩
  | _ => contradiction

end Sys2Proof.Machine
end

section
/-! SUPPORT. Which step it is (00_scope.md R10), what every command leaves as it is, and how a step ends: the two statements
of 00_scope.md. -/

namespace Sys2Proof.Machine

/-! ## Which step it is -/

/-- A command in progress goes on. -/
theorem step_of_task {s : State} {t : Task} (h : s.task = some t) : step s = resume t s := by
  simp only [step, h]

/-- Nothing to do. -/
theorem step_of_idle {s : State} (htask : s.task = none) (hinbox : s.inbox = []) : step s = .next s := by
  simp only [step, htask, hinbox]

/-- An input that decodes is run. -/
theorem step_of_decode_ok {s : State} {x : Fetch} {rest : List Fetch} {i : Instr} (htask : s.task = none)
    (hinbox : s.inbox = x :: rest) (hdec : decode s.cfg s.irFamily x = .ok i) :
    step s = exec i { s with inbox := rest } := by
  simp only [step, htask, hinbox, hdec]

/-- An input that decodes to no instruction is rejected. -/
theorem step_of_decode_error {s : State} {x : Fetch} {rest : List Fetch} {e : DecodeError} (htask : s.task = none)
    (hinbox : s.inbox = x :: rest) (hdec : decode s.cfg s.irFamily x = .error e) :
    step s = rejectInput x { s with inbox := rest } := by
  simp only [step, htask, hinbox, hdec]

/-- Settles O5: the equation of a step for an input that decodes. -/
theorem stepRunsTheDecodedInstruction : Obligations.StepRunsTheDecodedInstruction :=
  fun _ _ _ _ => step_of_decode_ok

/-! ## What every command leaves as it is -/

/-- A command in progress leaves the parameters, the host port and what it answered before as they are, and only adds to
the trace. -/
structure KeepsPorts (s t : State) : Prop where
  cfg : t.cfg = s.cfg
  task : t.task = s.task
  inbox : t.inbox = s.inbox
  results : t.results = s.results
  trace : s.trace <+: t.trace

theorem KeepsPorts.refl (s : State) : KeepsPorts s s := ⟨rfl, rfl, rfl, rfl, List.prefix_rfl⟩

theorem KeepsPorts.trans {s t u : State} (h : KeepsPorts s t) (k : KeepsPorts t u) : KeepsPorts s u :=
  ⟨k.cfg.trans h.cfg, k.task.trans h.task, k.inbox.trans h.inbox, k.results.trans h.results, h.trace.trans k.trace⟩

theorem Update.keepsPorts {s t : State} (h : Update s t) : KeepsPorts s t := by
  cases h with
  | shifted reg tx n exit => cases exit <;> constructor <;> simp
  | _ => constructor <;> simp

theorem Updates.keepsPorts {s t : State} (h : Updates s t) : KeepsPorts s t := by
  induction h with
  | refl => exact .refl s
  | tail _ hlast ih => exact ih.trans hlast.keepsPorts

theorem closePort_keepsPorts (s : State) : KeepsPorts s s.closePort := by
  constructor <;> simp

/-! ## How a step ends -/

/-- What a command comes to that runs from a state with no command in progress: it waits and has answered nothing, or it is
over and has answered once (00_scope.md R11). -/
structure Completes (s s' : State) : Prop where
  cfg : s'.cfg = s.cfg
  inbox : s'.inbox = s.inbox
  trace : s.trace <+: s'.trace
  waits : s'.task ≠ none → s'.results = s.results
  ends : s'.task = none → ∃ r, s'.results = s.results ++ [r] ∧ s'.result = some r

theorem KeepsPorts.completes_answer {s t : State} (h : KeepsPorts s t) (htask : s.task = none) (r : Result) :
    Completes s (t.answer r) where
  cfg := h.cfg
  inbox := h.inbox
  trace := h.trace
  waits hwaits := absurd (h.task.trans htask) hwaits
  ends _ := ⟨r, by rw [State.answer_results, h.results], rfl⟩

theorem KeepsPorts.completes_waiting {s t : State} (h : KeepsPorts s t) (w : Task) :
    Completes s { t with task := some w } where
  cfg := h.cfg
  inbox := h.inbox
  trace := h.trace
  waits _ := h.results
  ends hends := absurd hends (Option.some_ne_none w)

theorem commit_completes {b : Bridge Flow} {s s' : State} (htask : s.task = none)
    (hb : KeepsPorts s (endState (b s))) (h : commit b s = .next s') : Completes s s' := by
  rcases commit_cases b s with ⟨k, d, t, hrun, hc⟩ | ⟨w, t, hrun, hc⟩ | ⟨k, r, t, hrun, hc⟩ | ⟨f, t, -, hc⟩ <;>
    rw [hc] at h <;> cases h <;> rw [hrun] at hb
  · exact hb.completes_answer htask _
  · exact hb.completes_waiting w
  · exact hb.completes_answer htask _

/-- `SESSION_OPEN` after its length check, answered Ok (70_reset_and_hazards.md R371). -/
theorem openSession_of_ok {s : State} (sel : List Byte) (hok : s.nextAnswer.ok = true) :
    s.openSession sel =
      ({ ((s.closeIfOpen).emit (.opened sel)).advance.sessionReset with
          tap := s.nextAnswer.tap, session := .opened } : State).answer ⟨.ok, .none, .none⟩ := by
  simp only [State.openSession, hok, cond_true]

/-- `SESSION_OPEN` after its length check, answered Fail (R371). -/
theorem openSession_of_failed {s : State} (sel : List Byte) (hfail : s.nextAnswer.ok = false) :
    s.openSession sel =
      (((s.closeIfOpen).emit (.opened sel)).advance.sessionReset).answer
        ⟨.commFailure, .sessionOpenFailed, .none⟩ := by
  simp only [State.openSession, hfail, cond_false]

theorem openSession_completes {s : State} (sel : List Byte) (htask : s.task = none) :
    Completes s (s.openSession sel) := by
  have hreset : KeepsPorts s (((s.closeIfOpen).emit (.opened sel)).advance.sessionReset) := by
    constructor <;> simp
  cases hanswer : s.nextAnswer.ok with
  | false =>
    rw [openSession_of_failed sel hanswer]
    exact hreset.completes_answer htask _
  | true =>
    rw [openSession_of_ok sel hanswer]
    refine KeepsPorts.completes_answer ?_ htask _
    exact ⟨hreset.cfg, hreset.task, hreset.inbox, hreset.results, hreset.trace⟩

theorem execSessionOpen_completes {sel : List Byte} {s s' : State} (htask : s.task = none)
    (h : execSessionOpen sel s = .next s') : Completes s s' := by
  cases h
  split
  · exact openSession_completes sel htask
  · exact (KeepsPorts.refl s).completes_answer htask _

theorem cmdSessionClose_keepsPorts (s : State) : KeepsPorts s (endState (cmdSessionClose s)) := by
  by_cases hsession : s.session = .closed
  · have hrun : cmdSessionClose s = .error (.raise .refused .noSession) s := by
      simp [cmdSessionClose, checkSession, bind_run, hsession]
    rw [hrun]
    exact .refl s
  · have hrun : cmdSessionClose s = .ok (.ended .ok .none) { s.closePort with session := .closed } := by
      simp [cmdSessionClose, checkSession, bind_run, hsession]
    rw [hrun]
    have hclose := closePort_keepsPorts s
    exact ⟨hclose.cfg, hclose.task, hclose.inbox, hclose.results, hclose.trace⟩

theorem exec_completes {i : Instr} {s s' : State} (htask : s.task = none) (h : exec i s = .next s') :
    Completes s s' := by
  cases hopen : i.isSessionOpen with
  | true =>
    cases i <;> cases hopen
    exact execSessionOpen_completes htask h
  | false =>
    cases hclose : i.isSessionClose with
    | true =>
      cases i <;> cases hclose
      exact commit_completes htask (cmdSessionClose_keepsPorts s) h
    | false =>
      have hfast : i ≠ .opFastRead := fun hi => by rw [hi] at h; cases h
      obtain ⟨b, hb, heq⟩ := exec_eq_commit hopen hclose hfast
      rw [heq] at h
      exact commit_completes htask (hb s).keepsPorts h

theorem resume_completes {t : Task} {s s' : State} (h : resume t s = .next s') :
    Completes { s with task := none } s' :=
  commit_completes rfl (resumeTask_updates t _).keepsPorts h

theorem rejectInput_completes {x : Fetch} {s s' : State} (htask : s.task = none) (h : rejectInput x s = .next s') :
    Completes s s' := by
  cases x <;> cases h
  exact (KeepsPorts.refl s).completes_answer htask _

/-- Everything a step can do: a command in progress goes on, there is nothing to do, or the head of the host port is run or
rejected. -/
theorem step_completes {s s' : State} (h : step s = .next s') :
    (s.task ≠ none ∧ Completes { s with task := none } s') ∨
    (s.task = none ∧ s.inbox = [] ∧ s' = s) ∨
    (s.task = none ∧ s.inbox ≠ [] ∧ Completes { s with inbox := s.inbox.tail } s') := by
  rcases Option.eq_none_or_eq_some s.task with htask | ⟨t, htask⟩
  · cases hinbox : s.inbox with
    | nil =>
      rw [step_of_idle htask hinbox] at h
      cases h
      exact .inr (.inl ⟨htask, rfl, rfl⟩)
    | cons x rest =>
      refine .inr (.inr ⟨htask, List.cons_ne_nil x rest, ?_⟩)
      cases hdec : decode s.cfg s.irFamily x with
      | ok i =>
        rw [step_of_decode_ok htask hinbox hdec] at h
        exact exec_completes htask h
      | error e =>
        rw [step_of_decode_error htask hinbox hdec] at h
        exact rejectInput_completes htask h
  · rw [step_of_task htask] at h
    exact .inl ⟨by simp [htask], resume_completes h⟩

/-- Settles O6, by what a step can do: every command is made of updates that leave the ports alone, and `commit` answers it
at its end. -/
theorem commandsRunToCompletion : Obligations.CommandsRunToCompletion := by
  intro s s' h
  rcases step_completes h with ⟨hbusy, hdone⟩ | ⟨htask, hinbox, rfl⟩ | ⟨htask, -, hdone⟩
  · exact ⟨hdone.cfg, hdone.trace, fun _ => hdone.inbox, fun hidle => absurd hidle hbusy, hdone.waits,
      fun hend _ => hdone.ends hend⟩
  · refine ⟨rfl, List.prefix_rfl, fun _ => rfl, fun _ => ?_, fun _ => rfl, fun _ hwork => ?_⟩
    · rw [hinbox, List.tail_nil]
    · exact absurd hwork (not_or.mpr ⟨not_not_intro htask, not_not_intro hinbox⟩)
  · exact ⟨hdone.cfg, hdone.trace, fun hbusy => absurd htask hbusy, fun _ => hdone.inbox, hdone.waits,
      fun hend _ => hdone.ends hend⟩

end Sys2Proof.Machine
end

section
/-! SUPPORT. The flash of the reference target and the wire: a byte changes only by a DR stay that ended and can store to
it (20_memory.md R80, R83, R84), for one transaction, for one update of the state, and for a step. -/

namespace Sys2Proof.Machine

/-! ## What a transaction can store to -/

/-- A block erase changes a byte only in the block of its address. -/
theorem read_eraseBlock (t : Target) (size : Nat) (args : List Byte) (a : Nat) :
    (t.eraseBlock size args).mem.read a = t.mem.read a ∨ ∃ x, frameAddr args = some x ∧ inBlock size x a = true := by
  rcases eraseBlock_cases t size args with h | ⟨x, hx, -, h⟩ <;> rw [h]
  · exact .inl rfl
  · by_cases hin : roundDown x size ≤ a ∧ a < roundDown x size + size
    · exact .inr ⟨x, hx, by simpa [inBlock] using hin⟩
    · refine .inl ((Memory.read_erase _ _).trans (if_neg hin))

/-- A transaction changes a byte only where it can store: of the opcodes only the erases and the page program reach the
memory (R84). -/
theorem read_flashEffect (c : Cfg) (t : Target) {raw : List Byte} {op : Byte} {args : List Byte}
    (hraw : revBuf raw = op :: args) (a : Nat) :
    (t.flashEffect c op args).mem.read a = t.mem.read a ∨ wireStores c raw a = true := by
  unfold Target.flashEffect
  split
  case isTrue => split <;> exact .inl rfl
  split
  case isTrue => exact .inl rfl
  split
  case isTrue => exact .inl rfl
  split
  case isTrue =>
    cases args with
    | nil => exact .inl rfl
    | cons v vs => left; dsimp only; split <;> rfl
  split
  case isTrue hop => exact .inr (by simp [wireStores, hraw, hop])
  split
  case isTrue hop =>
    exact (read_eraseBlock t _ args a).imp id fun ⟨x, hx, hin⟩ => by simp [wireStores, hraw, hx, ← hop, hin]
  split
  case isTrue hop =>
    exact (read_eraseBlock t _ args a).imp id fun ⟨x, hx, hin⟩ => by simp [wireStores, hraw, hx, ← hop, hin]
  split
  case isTrue hop =>
    exact (read_eraseBlock t _ args a).imp id fun ⟨x, hx, hin⟩ => by simp [wireStores, hraw, hx, ← hop, hin]
  split
  case isFalse => exact .inl rfl
  case isTrue hop =>
    cases hx : frameAddr args with
    | none => exact .inl rfl
    | some x =>
      by_cases hin : ∃ i < (args.drop 3).length, a = programmedAt x i
      · right
        simpa [wireStores, hraw, hx, ← hop] using .inr (.inr (by simpa using hin))
      · left
        dsimp only
        split
        · exact Memory.read_program_other _ _ _ fun i hi h => hin ⟨i, hi, h⟩
        · rfl

/-- The end of a DR stay changes a byte only where the stay can store. -/
theorem read_leaveDr (c : Cfg) (t : Target) (a : Nat) :
    (t.leaveDr c).mem.read a = t.mem.read a ∨ wireStores c t.frame a = true := by
  unfold Target.leaveDr
  cases t.mode with
  | config => left; dsimp only; split <;> rfl
  | passthrough =>
    cases hraw : revBuf t.frame with
    | nil => exact .inl rfl
    | cons op args => exact read_flashEffect c t hraw a

/-! ## What a sequence of updates can store -/

/-- Every byte that differs between two memories is one that a DR stay of the list can store to. -/
def WiredStores (c : Cfg) (stays : List (List Byte)) (m m' : Memory) : Prop :=
  ∀ a, m'.read a = m.read a ∨ ∃ raw ∈ stays, wireStores c raw a = true

theorem WiredStores.refl (c : Cfg) (stays : List (List Byte)) (m : Memory) : WiredStores c stays m m :=
  fun _ => .inl rfl

theorem WiredStores.append {c : Cfg} {stays stays' : List (List Byte)} {m m' m'' : Memory}
    (h : WiredStores c stays m m') (k : WiredStores c stays' m' m'') : WiredStores c (stays ++ stays') m m'' := by
  intro a
  rcases k a with hk | ⟨raw, hmem, hraw⟩
  · rw [hk]
    exact (h a).imp id fun ⟨raw, hmem, hraw⟩ => ⟨raw, List.mem_append_left _ hmem, hraw⟩
  · exact .inr ⟨raw, List.mem_append_right _ hmem, hraw⟩

/-- The stays of a trace and its continuation. -/
theorem drStays_append (cur : Option (List Byte)) (a b : List Event) :
    drStays cur (a ++ b) = ((drStays cur a).1 ++ (drStays (drStays cur a).2 b).1, (drStays (drStays cur a).2 b).2) := by
  induction a generalizing cur with
  | nil => rfl
  | cons e es ih =>
    cases e with
    | shift reg tx n exit rx => cases reg <;> cases exit <;> simp [drStays, ih]
    | _ => simp [drStays, ih]

/-- Where a reference target is known after some updates, it was known before, no mark was raised, and its flash has changed
by the DR stays that ended meanwhile. -/
structure StoresOnWire (s t : State) : Prop where
  cfg : t.cfg = s.cfg
  wired : ∀ after, t.target = some after → ∃ before evs, s.target = some before ∧ t.hz = s.hz ∧
    t.trace = s.trace ++ evs ∧ (drStays s.openStay evs).2 = t.openStay ∧
    WiredStores s.cfg (drStays s.openStay evs).1 before.mem after.mem

/-- An update after which no target is known. -/
theorem StoresOnWire.of_unknown {s t : State} (hcfg : t.cfg = s.cfg) (h : t.target = none) : StoresOnWire s t :=
  ⟨hcfg, fun after ha => by rw [h] at ha; cases ha⟩

/-- Events that are neither moves nor shifts nor the end of a session, and an update that leaves TAP, target and marks. -/
theorem StoresOnWire.of_quiet {s t : State} (evs : List Event) (hevs : drStays s.openStay evs = ([], s.openStay))
    (hcfg : t.cfg = s.cfg) (htrace : t.trace = s.trace ++ evs) (htap : t.tap = s.tap) (htarget : t.target = s.target)
    (hhz : t.hz = s.hz) : StoresOnWire s t := by
  have hstay : t.openStay = s.openStay := by simp [State.openStay, htap, htarget]
  refine ⟨hcfg, fun after ha => ⟨after, evs, htarget ▸ ha, hhz, htrace, ?_, .refl _ _ _⟩⟩
  rw [hevs, hstay]

/-- An update that emits no event. -/
theorem StoresOnWire.of_silent {s t : State} (hcfg : t.cfg = s.cfg) (htrace : t.trace = s.trace) (htap : t.tap = s.tap)
    (htarget : t.target = s.target) (hhz : t.hz = s.hz) : StoresOnWire s t :=
  .of_quiet [] rfl hcfg (by simp [htrace]) htap htarget hhz

theorem StoresOnWire.refl (s : State) : StoresOnWire s s := .of_silent rfl rfl rfl rfl rfl

theorem StoresOnWire.trans {s t u : State} (h : StoresOnWire s t) (k : StoresOnWire t u) : StoresOnWire s u := by
  refine ⟨k.cfg.trans h.cfg, fun after ha => ?_⟩
  obtain ⟨between, evs', hb, hhz', htrace', hstay', hstores'⟩ := k.wired after ha
  obtain ⟨before, evs, hs, hhz, htrace, hstay, hstores⟩ := h.wired between hb
  rw [h.cfg] at hstores'
  refine ⟨before, evs ++ evs', hs, hhz'.trans hhz, by rw [htrace', htrace, List.append_assoc], ?_, ?_⟩ <;>
    rw [drStays_append, hstay]
  · exact hstay'
  · exact hstores.append hstores'

/-! ## Moves and shifts -/

theorem openStay_of_target {s : State} {t : Target} (h : s.target = some t) :
    s.openStay = if s.tap = .shiftDr then some t.frame else none := by
  simp only [State.openStay, h, Option.map_some]

theorem driverOk_target {s : State} (h : s.driverOk = false) : s.target = none := by
  simp only [State.driverOk, Bool.or_eq_false_iff, Option.isSome_eq_false_iff, Option.isNone_iff_eq_none] at h
  exact h.1

theorem shiftReg_eq_some {tap : TapState} {reg : Reg} (h : shiftReg tap = some reg) :
    tap = match reg with | .ir => .shiftIr | .dr => .shiftDr := by
  unfold shiftReg at h
  split at h
  · cases h; assumption
  · split at h <;> cases h
    assumption

theorem exitState_ne_shiftDr (c : Cfg) (reg : Reg) : exitState c reg ≠ .shiftDr := by
  cases reg <;> simp only [exitState] <;> split <;> decide

/-- A move that ends a stay takes effect; one that starts a stay finds no byte of it. -/
theorem onGoTo_frame (c : Cfg) (t : Target) (src : TapState) : (t.onGoTo c src .shiftDr).frame = [] := by
  simp [Target.onGoTo]

theorem onGoTo_mem (c : Cfg) (t : Target) (src dst : TapState) :
    (t.onGoTo c src dst).mem = if src = .shiftDr then (t.leaveDr c).mem else t.mem := by
  unfold Target.onGoTo
  by_cases hsrc : src = .shiftDr <;> by_cases hdst : dst = .shiftDr <;> simp [hsrc, hdst]

theorem moved_storesOnWire (s : State) (dst : TapState) :
    StoresOnWire s ((((s.emit (.goTo dst)).advance).targetGoTo dst).arrive dst) := by
  refine ⟨rfl, fun after ha => ?_⟩
  obtain ⟨t, ht, rfl⟩ := Option.map_eq_some_iff.mp ha
  refine ⟨t, [.goTo dst], ht, rfl, rfl, ?_, ?_⟩
  · rw [openStay_of_target ha]
    by_cases hdst : dst = .shiftDr
    · subst hdst
      simp [drStays, onGoTo_frame]
    · simp [drStays, hdst]
  · intro a
    rw [onGoTo_mem, openStay_of_target (s := s) ht]
    by_cases hsrc : s.tap = .shiftDr
    · simpa [hsrc, drStays] using read_leaveDr s.cfg t a
    · simp [hsrc]

theorem shifted_storesOnWire (s : State) {reg : Reg} (hreg : shiftReg s.tap = some reg) (tx : List Byte) (n : Nat)
    (exit : Bool) (rx : List Byte) :
    StoresOnWire s
      (let u := ((s.emit (.shift reg tx n exit rx)).advance).targetShift reg tx exit
       if exit then u.exitShift reg else u) := by
  refine ⟨by cases exit <;> simp, fun after ha => ?_⟩
  have ha' : s.target.map (fun t => t.onShift s.cfg reg tx exit) = some after := by
    cases exit <;> simpa using ha
  obtain ⟨t, ht, rfl⟩ := Option.map_eq_some_iff.mp ha'
  have htap := shiftReg_eq_some hreg
  refine ⟨t, [.shift reg tx n exit rx], ht, by cases exit <;> simp, by cases exit <;> simp, ?_, ?_⟩
  · rw [openStay_of_target ha, openStay_of_target ht, htap]
    cases reg <;> cases exit <;> simp [drStays, htap, exitState_ne_shiftDr, Target.onShift]
  · intro a
    rw [openStay_of_target ht, htap]
    cases reg <;> cases exit
    · exact .inl rfl
    · exact .inl rfl
    · exact .inl rfl
    · simpa [drStays, Target.onShift] using read_leaveDr s.cfg { t with frame := t.frame ++ tx } a

/-! ## Every update -/

theorem flashHazards_storesOnWire (s : State) (k : FlashKind) : StoresOnWire s (s.flashHazards k) := by
  cases h : (s.flashHazards k).target with
  | none => exact .of_unknown (by simp) h
  | some t =>
    rw [flashHazards_known (by simp [h])]
    exact .refl s

theorem writeEnableHazard_storesOnWire (s : State) : StoresOnWire s s.writeEnableHazard := by
  cases h : s.writeEnableHazard.target with
  | none => exact .of_unknown (by simp) h
  | some t =>
    rw [writeEnableHazard_known (by rw [h]; rfl)]
    exact .refl s

theorem Update.storesOnWire {s t : State} (h : Update s t) : StoresOnWire s t := by
  cases h with
  | moved dst => exact moved_storesOnWire s dst
  | shifted reg tx n exit _ hreg => exact shifted_storesOnWire s hreg tx n exit _
  | moveFailed _ _ _ hfail | shiftFailed _ _ _ _ _ _ _ hfail | settleFailed _ _ _ hfail =>
    exact .of_unknown rfl (by simpa using driverOk_target hfail)
  | settled cycles => exact .of_quiet [.settle cycles] rfl rfl rfl rfl rfl rfl
  | delayed n => exact .of_quiet [.delay n] rfl rfl rfl rfl rfl rfl
  | prologueMarked k => exact flashHazards_storesOnWire s k
  | writeMarked => exact writeEnableHazard_storesOnWire s
  | frameSent n => exact .of_silent (by simp) (by simp) (by simp) (by simp) (by simp)
  | _ => exact .of_silent rfl rfl rfl rfl rfl

theorem Updates.storesOnWire {s t : State} (h : Updates s t) : StoresOnWire s t := by
  induction h with
  | refl => exact .refl s
  | tail _ hlast ih => exact ih.trans hlast.storesOnWire

/-! ## Every step -/

/-- What a step from a hazard-free state does to a flash byte that is known before and after it. -/
structure StoresInStep (s s' : State) : Prop where
  hazardFree : s.HazardFree → s'.target.isSome = true → s'.HazardFree
  wired : ∀ after, s'.target = some after → ∃ before evs, s.target = some before ∧ s'.trace = s.trace ++ evs ∧
    WiredStores s.cfg (drStays s.openStay evs).1 before.mem after.mem

/-- The end of a command: its result or its wait changes no field the wire concerns. -/
theorem StoresOnWire.inStep {s t s' : State} (h : StoresOnWire s t) (htarget : s'.target = t.target)
    (hhz : s'.hz = t.hz) (htrace : s'.trace = t.trace) : StoresInStep s s' where
  hazardFree hfree hknown := by
    obtain ⟨after, ha⟩ := Option.isSome_iff_exists.mp (htarget ▸ hknown)
    obtain ⟨-, -, -, hmarks, -⟩ := h.wired after ha
    exact hhz.trans (hmarks.trans hfree)
  wired after ha := by
    obtain ⟨before, evs, hs, -, ht, -, hstores⟩ := h.wired after (htarget ▸ ha)
    exact ⟨before, evs, hs, htrace.trans ht, hstores⟩

theorem commit_storesInStep {b : Bridge Flow} {s s' : State} (hb : MakesUpdates b) (h : commit b s = .next s') :
    StoresInStep s s' := by
  have hs := (hb s).storesOnWire
  rcases commit_cases b s with ⟨k, d, t, hrun, hc⟩ | ⟨w, t, hrun, hc⟩ | ⟨k, r, t, hrun, hc⟩ | ⟨f, t, -, hc⟩ <;>
    rw [hc] at h <;> cases h <;> rw [hrun] at hs <;> exact hs.inStep rfl rfl rfl

/-- An end of a session or its opening stores nothing: a target that is still known is as it was. -/
theorem StoresInStep.of_kept {s s' : State} (hhz : s'.hz = s.hz ∨ s'.HazardFree) (htrace : s.trace <+: s'.trace)
    (htarget : ∀ after, s'.target = some after → s.target = some after) : StoresInStep s s' where
  hazardFree hfree _ := hhz.elim (fun h => h.trans hfree) id
  wired after ha := by
    obtain ⟨evs, hevs⟩ := htrace
    exact ⟨after, evs, htarget after ha, hevs.symm, .refl _ _ _⟩

theorem execSessionOpen_storesInStep {sel : List Byte} {s s' : State} (h : execSessionOpen sel s = .next s') :
    StoresInStep s s' := by
  cases h
  split
  · have htarget : ∀ after, (s.closeIfOpen).target = some after → s.target = some after := by
      intro after ha
      rw [State.closeIfOpen_target] at ha
      split at ha
      · cases ha
      · exact ha
    cases hanswer : s.nextAnswer.ok with
    | false =>
      rw [openSession_of_failed sel hanswer]
      exact .of_kept (.inr rfl) (by simp) htarget
    | true =>
      rw [openSession_of_ok sel hanswer]
      exact .of_kept (.inr rfl) (by simp) htarget
  · exact .of_kept (.inl rfl) List.prefix_rfl fun _ => id

theorem cmdSessionClose_of_closed {s : State} (h : s.session = .closed) :
    cmdSessionClose s = .error (.raise .refused .noSession) s := by
  simp [cmdSessionClose, checkSession, bind_run, h]

theorem cmdSessionClose_of_open {s : State} (h : s.session ≠ .closed) :
    cmdSessionClose s = .ok (.ended .ok .none) { s.closePort with session := .closed } := by
  simp [cmdSessionClose, checkSession, bind_run, h]

theorem execSessionClose_storesInStep {s s' : State} (h : execSessionClose s = .next s') : StoresInStep s s' := by
  by_cases hsession : s.session = .closed
  · rw [execSessionClose, commit_raised (cmdSessionClose_of_closed hsession)] at h
    cases h
    exact .of_kept (.inl rfl) List.prefix_rfl fun _ => id
  · rw [execSessionClose, commit_ended (cmdSessionClose_of_open hsession)] at h
    cases h
    refine .of_kept (.inl (by simp)) (by simp) fun after ha => ?_
    rw [State.answer_target, State.closePort_target] at ha
    split at ha
    · cases ha
    · exact ha

theorem exec_storesInStep {i : Instr} {s s' : State} (h : exec i s = .next s') : StoresInStep s s' := by
  cases hopen : i.isSessionOpen with
  | true =>
    cases i <;> cases hopen
    exact execSessionOpen_storesInStep h
  | false =>
    cases hclose : i.isSessionClose with
    | true =>
      cases i <;> cases hclose
      exact execSessionClose_storesInStep h
    | false =>
      have hfast : i ≠ .opFastRead := fun hi => by rw [hi] at h; cases h
      obtain ⟨b, hb, heq⟩ := exec_eq_commit hopen hclose hfast
      rw [heq] at h
      exact commit_storesInStep hb h

theorem step_storesInStep {s s' : State} (h : step s = .next s') : StoresInStep s s' := by
  rcases Option.eq_none_or_eq_some s.task with htask | ⟨t, htask⟩
  · cases hinbox : s.inbox with
    | nil =>
      rw [step_of_idle htask hinbox] at h
      cases h
      exact .of_kept (.inl rfl) List.prefix_rfl fun _ => id
    | cons x rest =>
      cases hdec : decode s.cfg s.irFamily x with
      | ok i =>
        rw [step_of_decode_ok htask hinbox hdec] at h
        have hi := exec_storesInStep h
        exact ⟨hi.hazardFree, hi.wired⟩
      | error e =>
        rw [step_of_decode_error htask hinbox hdec] at h
        cases x <;> cases h
        exact .of_kept (.inl rfl) List.prefix_rfl fun _ => id
  · rw [step_of_task htask] at h
    have ht := commit_storesInStep (resumeTask_updates t) h
    exact ⟨ht.hazardFree, ht.wired⟩

/-- Settles O54: a step is a sequence of updates, of which only a move out of SHIFT_DR and a shift that exits it end a DR
stay, and only the end of a DR stay stores; or it is a step of the session, which stores nothing. -/
theorem storesFollowTheWire : Obligations.StoresFollowTheWire := by
  intro s s' a v w hfree hstep hv hw
  have hs := step_storesInStep hstep
  obtain ⟨after, ha, rfl⟩ := Option.map_eq_some_iff.mp hw
  obtain ⟨before, evs, hb, htrace, hstores⟩ := hs.wired after ha
  refine ⟨hs.hazardFree hfree (by simp [ha]), fun hne => ⟨evs, htrace, (hstores a).resolve_left fun hsame => hne ?_⟩⟩
  simp only [State.flashAt, hb, Option.map_some, Option.some.injEq] at hv
  rw [← hv, hsame]

end Sys2Proof.Machine
end

section
/-! SUPPORT. Bits, bytes and words (20_memory.md R73, R74, R76; 10_state.md R50, R51): bit reversal, what a flash reads of the
bits of a shift, the address bytes, and the words assembled from bytes; the two statements of 20_memory.md about them. -/

namespace Sys2Proof

/-! ## Bits and bytes -/

/-- The positions of the bits of a byte. -/
theorem bitPosition {i : Nat} (h : i < 8) :
    i = 0 ∨ i = 1 ∨ i = 2 ∨ i = 3 ∨ i = 4 ∨ i = 5 ∨ i = 6 ∨ i = 7 := by omega

theorem getLsbD_rev8 (b : Byte) {i : Nat} (h : i < 8) : (rev8 b).getLsbD i = b.getLsbD (7 - i) := by
  unfold rev8
  change BitVec.getLsbD (w := 1 + 1 + 1 + 1 + 1 + 1 + 1 + 1) _ _ = _
  simp only [BitVec.getLsbD_append, BitVec.getLsbD_ofBool]
  rcases bitPosition h with rfl | rfl | rfl | rfl | rfl | rfl | rfl | rfl <;> rfl

@[simp] theorem rev8_rev8 (b : Byte) : rev8 (rev8 b) = b :=
  BitVec.eq_of_getLsbD_eq fun i h => by
    rw [getLsbD_rev8 _ h, getLsbD_rev8 _ (by omega), show 7 - (7 - i) = i by omega]

@[simp] theorem revBuf_nil : revBuf [] = [] := rfl
@[simp] theorem revBuf_cons (b : Byte) (s : List Byte) : revBuf (b :: s) = rev8 b :: revBuf s := rfl
@[simp] theorem revBuf_append (s s' : List Byte) : revBuf (s ++ s') = revBuf s ++ revBuf s' := List.map_append
@[simp] theorem getElem?_revBuf (s : List Byte) (i : Nat) : (revBuf s)[i]? = s[i]?.map rev8 := List.getElem?_map

@[simp] theorem revBuf_revBuf (s : List Byte) : revBuf (revBuf s) = s := by
  induction s with
  | nil => rfl
  | cons b s ih => rw [revBuf_cons, revBuf_cons, rev8_rev8, ih]

/-- One bit as a byte has its lowest bit alone. -/
theorem getElem_bitByte (c : Bool) {i : Nat} (h : i < 8) : (if c = true then 1#8 else 0#8)[i] = (c && decide (i = 0)) := by
  cases c
  · simp
  · simp [BitVec.getElem_one]

/-- A flash reads the first bit of a byte on the wire as the most significant one (10_state.md R50, R51). -/
theorem flashByte_byteBits (b : Byte) : flashByte (byteBits b) = rev8 b := by
  refine BitVec.eq_of_getLsbD_eq fun i h => ?_
  rw [getLsbD_rev8 b h]
  rcases bitPosition h with rfl | rfl | rfl | rfl | rfl | rfl | rfl | rfl <;>
    simp [flashByte, byteBits, List.range_succ, getElem_bitByte]

theorem length_byteBits (b : Byte) : (byteBits b).length = 8 := rfl

/-- The bits of byte j of a shift are the eight bits from 8 j on (R50). -/
theorem wireBits_block {raw : List Byte} {j : Nat} {b : Byte} (h : raw[j]? = some b) :
    ((wireBits raw).drop (8 * j)).take 8 = byteBits b := by
  induction raw generalizing j with
  | nil => cases h
  | cons c raw ih =>
    have hbits : wireBits (c :: raw) = byteBits c ++ wireBits raw := rfl
    rw [hbits]
    cases j with
    | zero =>
      cases h
      exact List.take_left' (length_byteBits b)
    | succ j =>
      rw [show 8 * (j + 1) = (byteBits c).length + 8 * j by rw [length_byteBits]; omega, List.drop_length_add_append]
      exact ih h

theorem flashByte_wireBits {raw : List Byte} {j : Nat} {b : Byte} (h : (revBuf raw)[j]? = some b) :
    flashByte (((wireBits raw).drop (8 * j)).take 8) = b := by
  rw [getElem?_revBuf] at h
  obtain ⟨c, hc, rfl⟩ := Option.map_eq_some_iff.mp h
  rw [wireBits_block hc, flashByte_byteBits]

/-- The three address bytes, most significant first, are the address (20_memory.md R73). -/
theorem ofBe24_be24 (a : Addr) : ofBe24 (a.extractLsb' 16 8) (a.extractLsb' 8 8) (a.extractLsb' 0 8) = a := by
  have hhigh : a.extractLsb' 16 8 ++ a.extractLsb' 8 8 = a.extractLsb' 8 16 :=
    BitVec.extractLsb'_append_extractLsb'_eq_extractLsb' rfl
  have hlow : a.extractLsb' 8 16 ++ a.extractLsb' 0 8 = a.extractLsb' 0 24 :=
    BitVec.extractLsb'_append_extractLsb'_eq_extractLsb' rfl
  rw [ofBe24, hhigh, hlow, BitVec.extractLsb'_eq_self]

theorem foldl_be24 (a : Addr) : ((be24 a).map (·.toNat)).foldl (fun v b => v * 256 + b) 0 = a.toNat := by
  have := a.isLt
  simp only [be24, List.map_cons, List.map_nil, List.foldl_cons, List.foldl_nil, BitVec.extractLsb'_toNat,
    Nat.shiftRight_eq_div_pow]
  omega

/-- Settles O25: a frame is sent reversed byte by byte, and a byte's bits go out from the least significant on, so that the
flash, which reads the first bit as the most significant, reads the byte that was reversed. -/
theorem spiBytesGoMostSignificantBitFirst : Obligations.SpiBytesGoMostSignificantBitFirst :=
  ⟨fun frame _ _ h => flashByte_wireBits (raw := revBuf frame) (by rwa [revBuf_revBuf]),
    fun _ _ _ h => flashByte_wireBits h, fun a => ⟨rfl, foldl_be24 a⟩⟩

/-! ## Words -/

/-- Bytes with the least significant one first, one byte at a time (20_memory.md R76). -/
@[simp] theorem assemble_lsb_cons (b : Byte) (rx : List Byte) :
    assemble .lsbByteFirst (b :: rx) = assemble .lsbByteFirst rx * 256 + b.toNat := rfl

/-- The two orders read a word's bytes from its two ends. -/
theorem assemble_msb (rx : List Byte) : assemble .msbByteFirst rx = assemble .lsbByteFirst rx.reverse :=
  List.foldl_eq_foldr_reverse

theorem pow_byte_succ (n : Nat) : 2 ^ (8 * (n + 1)) = 2 ^ (8 * n) * 256 := by
  rw [Nat.mul_add, Nat.pow_add]

theorem sum_map_mul_const (f : Nat → Nat) (k : Nat) (l : List Nat) :
    (l.map fun i => f i * k).sum = (l.map f).sum * k := by
  induction l with
  | nil => exact (Nat.zero_mul k).symm
  | cons i l ih => simp only [List.map_cons, List.sum_cons, ih, Nat.add_mul]

/-- An order's word is the sum of its bytes, each at its position. -/
theorem assemble_lsb_sum (rx : List Byte) :
    assemble .lsbByteFirst rx = ((List.range rx.length).map fun i => (rx.getD i 0).toNat * 2 ^ (8 * i)).sum := by
  induction rx with
  | nil => rfl
  | cons b rx ih =>
    have hshift : ∀ i, (rx.getD i 0).toNat * 2 ^ (8 * (i + 1)) = (rx.getD i 0).toNat * 2 ^ (8 * i) * 256 := fun i => by
      rw [pow_byte_succ, Nat.mul_assoc]
    simp only [assemble_lsb_cons, ih, List.length_cons, List.range_succ_eq_map, List.map_cons, List.map_map,
      List.sum_cons, Function.comp_def, List.getD_cons_succ, hshift, sum_map_mul_const, List.getD_cons_zero]
    omega

/-- The bytes read so far stand above the bytes to come. -/
theorem foldl_bytes (v : Nat) (rx : List Byte) :
    rx.foldl (fun v b => v * 256 + b.toNat) v = v * 2 ^ (8 * rx.length) + assemble .msbByteFirst rx := by
  induction rx generalizing v with
  | nil => exact (Nat.mul_one v).symm
  | cons b rx ih =>
    have hword : assemble .msbByteFirst (b :: rx) = (0 * 256 + b.toNat) * 2 ^ (8 * rx.length) +
        assemble .msbByteFirst rx := ih _
    rw [List.foldl_cons, ih, hword, List.length_cons, pow_byte_succ, Nat.zero_mul, Nat.zero_add, Nat.add_mul,
      Nat.mul_assoc, Nat.mul_comm 256, Nat.add_assoc]

theorem assemble_msb_cons (b : Byte) (rx : List Byte) :
    assemble .msbByteFirst (b :: rx) = b.toNat * 2 ^ (8 * rx.length) + assemble .msbByteFirst rx := by
  rw [← foldl_bytes]
  simp [assemble]

theorem assemble_msb_sum (rx : List Byte) :
    assemble .msbByteFirst rx =
      ((List.range rx.length).map fun i => (rx.getD i 0).toNat * 2 ^ (8 * rx.length - 8 * (i + 1))).sum := by
  induction rx with
  | nil => rfl
  | cons b rx ih =>
    have hshift : ∀ i, 8 * (rx.length + 1) - 8 * (i + 1 + 1) = 8 * rx.length - 8 * (i + 1) := fun i => by omega
    simp only [assemble_msb_cons, ih, List.length_cons, List.range_succ_eq_map, List.map_cons, List.map_map,
      List.sum_cons, Function.comp_def, List.getD_cons_succ, List.getD_cons_zero, hshift]
    rfl

/-- A word fits the width of its bytes. -/
theorem assemble_lt (o : WordAssembly) (rx : List Byte) : assemble o rx < 2 ^ (8 * rx.length) := by
  have hlsb : ∀ rx, assemble .lsbByteFirst rx < 2 ^ (8 * rx.length) := by
    intro rx
    induction rx with
    | nil => exact Nat.one_pos
    | cons b rx ih =>
      have := b.isLt
      rw [assemble_lsb_cons, List.length_cons, pow_byte_succ]
      omega
  cases o with
  | lsbByteFirst => exact hlsb rx
  | msbByteFirst => simpa [assemble_msb] using hlsb rx.reverse

theorem assemble_bytesLe (v n : Nat) : assemble .lsbByteFirst (bytesLe v n) = v % 2 ^ (8 * n) := by
  induction n generalizing v with
  | zero => exact (Nat.mod_one v).symm
  | succ n ih =>
    rw [bytesLe, assemble_lsb_cons, ih, BitVec.toNat_ofNat, pow_byte_succ, Nat.mul_comm (2 ^ (8 * n)), Nat.mod_mul,
      Nat.add_comm, Nat.mul_comm]

/-- A word laid out in an order reads back in that order (R84). -/
theorem assemble_wordBytes (o : WordAssembly) (v n : Nat) : assemble o (wordBytes o v n) = v % 2 ^ (8 * n) := by
  cases o with
  | lsbByteFirst => exact assemble_bytesLe v n
  | msbByteFirst => rw [assemble_msb, wordBytes, List.reverse_reverse, assemble_bytesLe]

/-- Settles O26, by induction on the bytes. -/
theorem wordAssemblyOrder : Obligations.WordAssemblyOrder := fun rx =>
  ⟨assemble_msb_sum rx, assemble_lsb_sum rx, rfl, fun o => assemble_lt o rx, assemble_wordBytes⟩

end Sys2Proof
end

section
/-! SUPPORT. The reference target in passthrough (20_memory.md R84): what a ready flash does at the end of a transaction, by
the name of its opcode, what it answers in a read, and what a frame of the bridge makes of it. -/

namespace Sys2Proof.Machine

/-! ## Opcodes by their names -/

/-- The opcodes of well-formed parameters tell the names apart (30_encoding.md R103). -/
theorem flashOps_get_inj {c : Cfg} (hc : c.WfCodes) {m n : FlashName} :
    c.flashOps.get m = c.flashOps.get n ↔ m = n := by
  refine ⟨fun h => ?_, fun h => h ▸ rfl⟩
  have hname := flashNameOf_get hc m
  rw [h, flashNameOf_get hc n] at hname
  exact (Option.some.inj hname).symm

/-- What a flash that is not busy does when a transaction ends, by the name of its opcode (R84). -/
def Target.readyEffect (c : Cfg) (t : Target) (args : List Byte) : FlashName → Target
  | .wren => { t with sr1 := t.sr1 ||| 0x02 }
  | .wrdi => t.clearWel
  | .wrsr1 =>
    match args with
    | v :: _ => if t.wel then { t with sr1 := (v &&& 0xFC), busyPolls := t.bw } else t
    | [] => t
  | .ce => if t.wel then { t.clearWel with mem := [], busyPolls := t.be } else t
  | .se4k => t.eraseBlock c.erase4K args
  | .be32k => t.eraseBlock c.erase32K args
  | .be64k => t.eraseBlock c.erase64K args
  | .pp =>
    match frameAddr args with
    | some a =>
      if t.wel then
        { t.clearWel with mem := t.mem.program (roundDown a 256) a (args.drop 3), busyPolls := t.bp }
      else t
    | none => t
  | _ => t

theorem flashEffect_get {c : Cfg} (hc : c.WfCodes) {t : Target} (hbusy : t.busyPolls = 0) (n : FlashName)
    (args : List Byte) : t.flashEffect c (c.flashOps.get n) args = t.readyEffect c args n := by
  unfold Target.flashEffect
  rw [if_neg (by omega)]
  change (if c.flashOps.get n = c.flashOps.get .wren then _ else if c.flashOps.get n = c.flashOps.get .wrdi then _
    else if c.flashOps.get n = c.flashOps.get .wrsr1 then _ else if c.flashOps.get n = c.flashOps.get .ce then _
    else if c.flashOps.get n = c.flashOps.get .se4k then _ else if c.flashOps.get n = c.flashOps.get .be32k then _
    else if c.flashOps.get n = c.flashOps.get .be64k then _ else if c.flashOps.get n = c.flashOps.get .pp then _
    else _) = _
  simp only [flashOps_get_inj hc]
  cases n <;> rfl

/-- The bytes of a DR stay play no part in what a transaction does. -/
theorem readyEffect_frame (c : Cfg) (t : Target) (args f : List Byte) (n : FlashName) :
    ({ t with frame := f } : Target).readyEffect c args n = { t.readyEffect c args n with frame := f } := by
  have hwel : ({ t with frame := f } : Target).wel = t.wel := rfl
  have herase : ∀ size, ({ t with frame := f } : Target).eraseBlock size args =
      { t.eraseBlock size args with frame := f } := by
    intro size
    unfold Target.eraseBlock
    rw [hwel]
    cases frameAddr args <;> cases t.wel <;> rfl
  cases n with
  | se4k | be32k | be64k => exact herase _
  | wrsr1 => cases args <;> cases hw : t.wel <;> simp [Target.readyEffect, hwel, hw]
  | ce => cases hw : t.wel <;> simp [Target.readyEffect, hwel, hw, Target.clearWel]
  | pp =>
    cases ha : frameAddr args <;> cases hw : t.wel <;> simp [Target.readyEffect, hwel, hw, ha, Target.clearWel]
  | _ => rfl

/-! ## Addresses in frames -/

/-- The address a frame carries is read back (20_memory.md R73). -/
theorem frameAddr_be24 (a : Addr) (rest : List Byte) : frameAddr (be24 a ++ rest) = some a.toNat :=
  congrArg (fun x : Addr => some x.toNat) (ofBe24_be24 a)

/-! ## What the wire makes of a frame -/

/-- A DR stay of a named opcode's transaction ends in passthrough. -/
theorem leaveDr_transaction {c : Cfg} (hc : c.WfCodes) {t : Target} {n : FlashName} {args : List Byte}
    (hmode : t.mode = .passthrough) (hbusy : t.busyPolls = 0) (hframe : t.frame = revBuf (c.flashOps.get n :: args)) :
    t.leaveDr c = { t.readyEffect c args n with frame := [] } := by
  unfold Target.leaveDr
  rw [hmode, hframe, revBuf_revBuf]
  simp only [flashEffect_get hc hbusy]

/-- A frame after some events, as the target sees it: a move into SHIFT_DR, if the TAP is not there, and a shift. -/
theorem replay_framed {s : State} {t : Target} {e : List Event} {src : TapState} (hsrc : src = tapAfter s.cfg s.tap e)
    (frame : List Byte) (exit : Bool) :
    t.replay s.cfg s.tap (s.framed e src frame exit) =
      (if src = .shiftDr then t.replay s.cfg s.tap e
        else (t.replay s.cfg s.tap e).onGoTo s.cfg src .shiftDr).onShift s.cfg .dr (revBuf frame) exit := by
  rw [State.framed, State.shifted, replay_append, replay_append, ← hsrc, goTos]
  split <;> rfl

section
variable {s : State} {t t' : Target} {e : List Event} {src : TapState}

/-- A whole transaction with a ready flash. -/
theorem replay_exchanged (hc : s.cfg.WfCodes) (hsrc : src = tapAfter s.cfg s.tap e) (hout : src ≠ .shiftDr)
    (ht : t.replay s.cfg s.tap e = t') (hmode : t'.mode = .passthrough) (hbusy : t'.busyPolls = 0) (n : FlashName)
    (operands : List Byte) :
    t.replay s.cfg s.tap (s.framed e src (s.cfg.flashOps.get n :: operands) true) =
      { t'.readyEffect s.cfg operands n with frame := [] } := by
  rw [replay_framed hsrc, ht, if_neg hout]
  have hleave := leaveDr_transaction hc (t := { t' with frame := revBuf (s.cfg.flashOps.get n :: operands) })
    (n := n) (args := operands) hmode hbusy rfl
  rw [readyEffect_frame] at hleave
  simpa [Target.onGoTo, Target.onShift, hout] using hleave

/-- The header of a held transaction. -/
theorem replay_opened (hsrc : src = tapAfter s.cfg s.tap e) (hout : src ≠ .shiftDr)
    (ht : t.replay s.cfg s.tap e = t') (frame : List Byte) :
    t.replay s.cfg s.tap (s.framed e src frame false) = { t' with frame := revBuf frame } := by
  rw [replay_framed hsrc, ht, if_neg hout]
  simp [Target.onGoTo, Target.onShift, hout]

/-- More bytes of a held transaction. -/
theorem replay_continued (hin : tapAfter s.cfg s.tap e = .shiftDr) (ht : t.replay s.cfg s.tap e = t')
    (frame : List Byte) :
    t.replay s.cfg s.tap (s.framed e .shiftDr frame false) = { t' with frame := t'.frame ++ revBuf frame } := by
  rw [replay_framed hin.symm, ht, if_pos rfl]
  rfl

/-- The last bytes of a held transaction with a ready flash. -/
theorem replay_finished (hc : s.cfg.WfCodes) (hin : tapAfter s.cfg s.tap e = .shiftDr)
    (ht : t.replay s.cfg s.tap e = t') (hmode : t'.mode = .passthrough) (hbusy : t'.busyPolls = 0) {n : FlashName}
    {operands : List Byte} (hframe : t'.frame = revBuf (s.cfg.flashOps.get n :: operands)) (data : List Byte) :
    t.replay s.cfg s.tap (s.framed e .shiftDr data true) =
      { t'.readyEffect s.cfg (operands ++ data) n with frame := [] } := by
  rw [replay_framed hin.symm, ht, if_pos rfl]
  have hleave := leaveDr_transaction hc (t := { t' with frame := t'.frame ++ revBuf data }) (n := n)
    (args := operands ++ data) hmode hbusy (by rw [hframe, ← revBuf_append]; rfl)
  rw [readyEffect_frame] at hleave
  exact hleave

end

/-! ## What a flash answers in a read -/

/-- In a read from an address, the flash answers its bytes from that address on, and past the top from address 0
(20_memory.md R77, R84). -/
theorem response_read {c : Cfg} (hc : c.WfCodes) {t : Target} (hmode : t.mode = .passthrough) (hbusy : t.busyPolls = 0)
    {raw rest : List Byte} {a : Addr} (hraw : raw = revBuf (c.flashOps.read :: be24 a ++ rest)) (j : Nat) :
    t.response c raw (4 + j) = some (rev8 (t.mem.read ((a.toNat + j) % flashSpace))) := by
  have hne : ∀ n, n ≠ .read → c.flashOps.read ≠ c.flashOps.get n :=
    fun n hn h => hn ((flashOps_get_inj hc (m := .read)).mp h).symm
  have h1 : c.flashOps.read ≠ c.flashOps.rdsr1 := hne .rdsr1 (by decide)
  have h2 : c.flashOps.read ≠ c.flashOps.rdsr2 := hne .rdsr2 (by decide)
  have h3 : c.flashOps.read ≠ c.flashOps.rdsr3 := hne .rdsr3 (by decide)
  have h4 : c.flashOps.read ≠ c.flashOps.rdid := hne .rdid (by decide)
  simp [Target.response, hmode, hraw, Target.flashResponse, hbusy, h1, h2, h3, h4, frameAddr_be24]

end Sys2Proof.Machine
end

section
/-! SUPPORT. What the erase commands, the page program and the streamed read do to the flash of a reference target that is
ready (43_flash_commands.md R209 to R217; 20_memory.md R77, R79, R80, R84): their run, what the target makes of it, and the two
statements. -/

namespace Sys2Proof.Machine

/-! ## Runs of the flash commands -/

/-- The events of the write-enable frame that erases and programs start with (R209, R214). -/
def State.enableEvents (m : State) : List Event := m.framed [] m.tap [m.cfg.flashOps.wren] true

theorem answersOf_enableEvents (m : State) : answersOf m.enableEvents ≤ 2 := answersOf_framed m [] m.tap _ true

theorem tapAfter_enableEvents (m : State) : tapAfter m.cfg m.tap m.enableEvents = exitState m.cfg .dr :=
  tapAfter_exchanged _ rfl

theorem sendEnable_ok {m : State} {k : Nat} (herr : m.err = false) (hok : m.OkFor k) (hk : 2 ≤ k) :
    sendFrame .wren [] m = .ok (m.spiRx [] m.tap [m.cfg.flashOps.wren])
      ((m.afterFrame .wren).saw m.enableEvents (exitState m.cfg .dr) false false) := by
  have := answersOf_goTos m.tap .shiftDr
  rw [sendFrame_ok .wren [] herr hok (by omega), afterFrame_saw]
  rfl

theorem answersOf_enableEvents_goTos (m : State) (src : TapState) :
    answersOf (m.enableEvents ++ goTos src .shiftDr) ≤ 3 := by
  have h1 := answersOf_enableEvents m
  have h2 := answersOf_goTos src .shiftDr
  rw [answersOf_append]
  omega

/-- An erase command: the marks of its prologue, a write-enable frame, and the erase frame (R209, R211). -/
theorem eraseFrames_ok {s m : State} (hs : s.Ready) (hm : m = s.flashHazards .plain) (hok : m.OkFor 4) (n : FlashName)
    (operands : List Byte) :
    eraseFrames n operands s = .ok (.ended .ok .none)
      (((m.afterFrame .wren).afterFrame n).saw
        (m.framed m.enableEvents (exitState m.cfg .dr) (m.cfg.flashOps.get n :: operands) true) (exitState m.cfg .dr)
        false false) := by
  have herr : m.err = false := by simp [hm, hs.2]
  have hok' : (m.afterFrame .wren).OkFor 4 := okFor_congr hok rfl rfl rfl
  have hgo := answersOf_enableEvents_goTos m (exitState m.cfg .dr)
  refine bind_trans (flashPrologue_ok .plain hs (.inl (by decide))) ?_
  rw [← hm]
  refine bind_trans (sendEnable_ok herr hok (by omega)) ?_
  exact bind_trans (sendFrame_saw n operands herr hok' (by omega) (tapAfter_enableEvents m).symm) rfl

/-- `F_PP`: the marks of its prologue, a write-enable frame, and the page-program transaction (R214). -/
theorem cmdFPp_ok {s m : State} {a : Addr} {data : List Byte} (hs : s.Ready) (hlen : pageLenOk s.cfg a data.length = true)
    (hm : m = s.flashHazards .plain) (hok : m.OkFor 5) :
    cmdFPp a data s = .ok (.ended .ok .none)
      (({ m with weIssued := false, mustPoll := true } : State).saw
        (m.framed (m.framed m.enableEvents (exitState m.cfg .dr) (m.cfg.flashOps.pp :: be24 a) false) .shiftDr data true)
        (exitState m.cfg .dr) false false) := by
  have herr : m.err = false := by simp [hm, hs.2]
  have hok' : (m.afterFrame .wren).OkFor 5 := okFor_congr hok rfl rfl rfl
  have hgo := answersOf_enableEvents_goTos m (exitState m.cfg .dr)
  have hdata : data ≠ [] := by
    rintro rfl
    simp [pageLenOk] at hlen
  refine bind_trans (get_run s) ?_
  rw [hlen]
  refine bind_trans (flashPrologue_ok .plain hs (.inl (by decide))) ?_
  rw [← hm]
  refine bind_trans (sendEnable_ok herr hok (by omega)) ?_
  exact bind_trans (sendPage_saw a data herr hok' (by omega) (tapAfter_enableEvents m).symm hdata) rfl

/-- `F_READ`: the marks of its prologue, the header held, and the read open (R216). -/
theorem cmdFRead_ok {s m : State} (a : Addr) (hs : s.Ready) (hm : m = s.flashHazards .plain) (hok : m.OkFor 2) :
    cmdFRead a s = .ok (.ended .ok .none)
      (m.saw (m.framed [] m.tap (m.cfg.flashOps.read :: be24 a) false) .shiftDr true m.burstOpen) := by
  have herr : m.err = false := by simp [hm, hs.2]
  have hgo := answersOf_goTos m.tap .shiftDr
  refine bind_trans (flashPrologue_ok .plain hs (.inl (by decide))) ?_
  rw [← hm]
  exact bind_trans (bind_trans (sendHeader_ok .read a herr hok (by omega)) rfl) rfl

/-- `F_CONT_READ`: the marks of its prologue, and fill bytes through the open read, whose answers it returns (R217). -/
theorem cmdFContRead_ok {s m : State} {n : Len} (hs : s.Ready) (hopen : s.rdOpen = true)
    (hlen : xferLenOk s.cfg n.toNat = true) (hm : m = s.flashHazards .contRead) (hok : m.OkFor 2) :
    cmdFContRead n s = .ok (.ended .ok (.bytes (m.spiRx [] m.tap (List.replicate n.toNat 0))))
      (m.saw (m.framed [] m.tap (List.replicate n.toNat 0) false) .shiftDr m.rdOpen m.burstOpen) := by
  have herr : m.err = false := by simp [hm, hs.2]
  have hgo := answersOf_goTos m.tap .shiftDr
  have hfill : List.replicate n.toNat (0 : Byte) ≠ [] := by
    intro h
    rw [List.replicate_eq_nil_iff] at h
    simp [xferLenOk, h] at hlen
  refine bind_trans (get_run s) ?_
  rw [hlen]
  refine bind_trans (flashPrologue_ok .contRead hs (.inr hopen)) ?_
  rw [← hm]
  exact bind_trans (streamSPI_ok _ herr hok (by omega) hfill) rfl

/-! ## On a ready flash -/

section
variable {s : State} {t : Target}

theorem flashHazards_of_flashReady (h : s.FlashReady t) : s = s.flashHazards .plain := by
  obtain ⟨-, hpt, hpoll, -, -, -, htap⟩ := h
  exact (flashHazards_clean hpt (.inl hpoll) (.inl htap)).symm

/-- An attached target answers every primitive Ok (R84). -/
theorem okFor_of_target (h : s.target = some t) (n : Nat) : s.OkFor n := .inl (by rw [h]; rfl)

/-- The target after a write-enable frame: WEL is set (R84). -/
def Target.enabled (t : Target) : Target := { t with sr1 := t.sr1 ||| 0x02, frame := [] }

theorem wel_enabled (t : Target) : t.enabled.wel = true := by
  simp [Target.enabled, Target.wel]

theorem replay_enableEvents (hc : s.cfg.WfCodes) (h : s.FlashReady t) :
    t.replay s.cfg s.tap s.enableEvents = t.enabled := by
  obtain ⟨-, -, -, -, hmode, hbusy, htap⟩ := h
  exact replay_exchanged hc (e := []) rfl htap rfl hmode hbusy .wren []

/-- An erase command on a ready flash: the run stays hazard-free, and the target does what its erase frame does after a
write-enable. -/
theorem eraseFrames_onTarget (hc : s.cfg.WfCodes) (hs : s.Ready) (h : s.FlashReady t) (n : FlashName)
    (operands : List Byte) :
    ∃ u, commit (eraseFrames n operands) s = .next u ∧ u.HazardFree ∧
      ∀ x, u.flashAt x = some ((t.enabled.readyEffect s.cfg operands n).mem.read x) := by
  have hmark := flashHazards_of_flashReady h
  have henable := replay_enableEvents hc h
  obtain ⟨hfree, -, -, htarget, hmode, hbusy, -⟩ := h
  have hreplay := replay_exchanged hc (tapAfter_enableEvents s).symm (exitState_ne_shiftDr s.cfg .dr) henable hmode hbusy
    n operands
  refine ⟨_, commit_ended (eraseFrames_ok hs hmark (okFor_of_target htarget 4) n operands),
    by simpa [State.HazardFree] using hfree, fun x => ?_⟩
  simp [State.flashAt, htarget, hreplay]

theorem fCe_onTarget (hc : s.cfg.WfCodes) (hs : s.Ready) (h : s.FlashReady t) :
    ∃ u, exec .fCe s = .next u ∧ u.HazardFree ∧ ∀ x, u.flashAt x = some 0xFF := by
  obtain ⟨u, hu, hfree, hflash⟩ := eraseFrames_onTarget hc hs h .ce []
  refine ⟨u, hu, hfree, fun x => ?_⟩
  rw [hflash, Target.readyEffect, if_pos (wel_enabled t)]
  rfl

/-- The opcode of a granularity's block erase (43_flash_commands.md R210). -/
def blockErase : Gran → FlashName
  | .g4K => .se4k
  | .g32K => .be32k
  | .g64K => .be64k

theorem exec_eraseCmd (g : Gran) (a : Addr) : exec (eraseCmd g a) = commit (eraseFrames (blockErase g) (be24 a)) := by
  cases g <;> rfl

theorem readyEffect_blockErase (c : Cfg) (t : Target) (g : Gran) (args : List Byte) :
    t.readyEffect c args (blockErase g) = t.eraseBlock (c.eraseSize g) args := by
  cases g <;> rfl

/-- A block erase of an enabled flash sets its block to 0xFF and nothing else. -/
theorem read_eraseBlock_enabled (t : Target) (size : Nat) (a : Addr) (x : Nat) :
    (t.enabled.eraseBlock size (be24 a)).mem.read x = if inBlock size a.toNat x then 0xFF else t.mem.read x := by
  have haddr : frameAddr (be24 a) = some a.toNat := frameAddr_be24 a []
  have hin : inBlock size a.toNat x = true ↔ roundDown a.toNat size ≤ x ∧ x < roundDown a.toNat size + size := by
    simp [inBlock]
  simp only [Target.eraseBlock, haddr, wel_enabled, if_true, Memory.read_erase, hin]
  rfl

theorem eraseCmd_onTarget (hc : s.cfg.WfCodes) (hs : s.Ready) (h : s.FlashReady t) (g : Gran) (a : Addr) :
    ∃ u, exec (eraseCmd g a) s = .next u ∧ u.HazardFree ∧
      ∀ x, u.flashAt x = if inBlock (s.cfg.eraseSize g) a.toNat x then some 0xFF else s.flashAt x := by
  obtain ⟨u, hu, hfree, hflash⟩ := eraseFrames_onTarget hc hs h (blockErase g) (be24 a)
  obtain ⟨-, -, -, htarget, -⟩ := h
  refine ⟨u, by rw [exec_eraseCmd, hu], hfree, fun x => ?_⟩
  rw [hflash, readyEffect_blockErase, read_eraseBlock_enabled, State.flashAt, htarget, apply_ite some]
  rfl

/-! ## The page program -/

/-- A page program on a ready flash: the run stays hazard-free, and the data is programmed into the page of its address. -/
theorem fPp_programs (hc : s.cfg.WfCodes) (hs : s.Ready) (h : s.FlashReady t) {a : Addr} {data : List Byte}
    (hlen : pageLenOk s.cfg a data.length = true) :
    ∃ u, exec (.fPp a data) s = .next u ∧ u.HazardFree ∧
      ∀ x, u.flashAt x = some ((t.mem.program (roundDown a.toNat 256) a.toNat data).read x) := by
  have hmark := flashHazards_of_flashReady h
  have henable := replay_enableEvents hc h
  obtain ⟨hfree, -, -, htarget, hmode, hbusy, -⟩ := h
  have hheader := replay_opened (tapAfter_enableEvents s).symm (exitState_ne_shiftDr s.cfg .dr) henable
    (s.cfg.flashOps.pp :: be24 a)
  have hreplay := replay_finished hc (n := .pp) (operands := be24 a) (tapAfter_held _ (tapAfter_enableEvents s).symm)
    hheader hmode hbusy rfl data
  refine ⟨_, commit_ended (cmdFPp_ok hs hlen hmark (okFor_of_target htarget 5)),
    by simpa [State.HazardFree] using hfree, fun x => ?_⟩
  rw [readyEffect_frame, Target.readyEffect, frameAddr_be24] at hreplay
  simp only [wel_enabled, if_true] at hreplay
  rw [State.flashAt, State.answer_target, State.saw_target]
  simp only [htarget, Option.map_some, hreplay]
  rfl

/-- Where a page has at most 256 bytes, data that stays inside its page stays inside the 256 bytes the flash programs
(20_memory.md R79, R84; log 15). -/
theorem data_inside_256 {c : Cfg} (hpow : IsPow2 c.pageSize) (hsize : c.pageSize ≤ 256) {a : Addr} {n : Nat}
    (hlen : pageLenOk c a n = true) : a.toNat % 256 + n ≤ 256 := by
  obtain ⟨hpos, hlog⟩ := hpow
  have hdvd : c.pageSize ∣ 256 := by
    rw [← hlog]
    refine Nat.pow_dvd_pow 2 (n := 8) ?_
    rw [← Nat.pow_le_pow_iff_right (a := 2) (by decide), hlog]
    exact hsize
  obtain ⟨k, hk⟩ := hdvd
  simp only [pageLenOk, Bool.and_eq_true, decide_eq_true_eq] at hlen
  have hmod : a.toNat % 256 % c.pageSize = a.toNat % c.pageSize := Nat.mod_mod_of_dvd _ ⟨k, hk⟩
  have hsplit := Nat.div_add_mod (a.toNat % 256) c.pageSize
  have hquot : a.toNat % 256 / c.pageSize < k := by
    rw [Nat.div_lt_iff_lt_mul hpos, Nat.mul_comm, ← hk]
    exact Nat.mod_lt _ (by decide)
  have hpage : c.pageSize * (a.toNat % 256 / c.pageSize) + c.pageSize ≤ 256 := by
    calc c.pageSize * (a.toNat % 256 / c.pageSize) + c.pageSize
        = c.pageSize * (a.toNat % 256 / c.pageSize + 1) := (Nat.mul_succ _ _).symm
      _ ≤ c.pageSize * k := Nat.mul_le_mul_left _ hquot
      _ = 256 := hk.symm
  omega

theorem fPp_onTarget (hi : s.Inv) (hs : s.Ready) (h : s.FlashReady t) {a : Addr} {data : List Byte}
    (hlen : pageLenOk s.cfg a data.length = true) :
    ∃ u, exec (.fPp a data) s = .next u ∧ u.HazardFree ∧
      (∀ x, (∀ i < data.length, x ≠ programmedAt a.toNat i) → u.flashAt x = s.flashAt x) ∧
      (s.cfg.pageSize ≤ 256 → ∀ i d, data[i]? = some d →
        u.flashAt (a.toNat + i) = (s.flashAt (a.toNat + i)).map (· &&& d)) := by
  obtain ⟨⟨⟨hpow, -⟩, hc, -⟩, -, -, -, -, -, hmem⟩ := hi
  obtain ⟨u, hu, hfree, hflash⟩ := fPp_programs hc hs h hlen
  obtain ⟨-, -, -, htarget, -⟩ := h
  have hknown : ∀ x, s.flashAt x = some (t.mem.read x) := fun x => by simp [State.flashAt, htarget]
  refine ⟨u, hu, hfree, fun x hx => ?_, fun hsize i d hd => ?_⟩
  · rw [hflash, hknown, Memory.read_program_other _ _ _ hx]
  · have hat : a.toNat + i = roundDown a.toNat 256 + (a.toNat % 256 + i) := by
      simp only [roundDown]
      omega
    rw [hflash, hknown, Option.map_some, hat, Memory.read_program_at (page_inside a.isLt) data _ (hmem t htarget) _ _ _ hd
      (data_inside_256 hpow hsize hlen)]

end

/-- Settles O55: each command is a write-enable frame and one transaction, which finds the flash ready and WEL set. -/
theorem flashEffects : Obligations.FlashEffects := by
  intro s t hi hs h
  have hc : s.cfg.WfCodes := hi.1.2.1
  exact ⟨fCe_onTarget hc hs h,
    fun a => ⟨eraseCmd_onTarget hc hs h .g4K a, eraseCmd_onTarget hc hs h .g32K a, eraseCmd_onTarget hc hs h .g64K a⟩,
    fun a data hlen => fPp_onTarget hi hs h hlen⟩

end Sys2Proof.Machine
end

section
/-! SUPPORT. The streamed read on a reference target (20_memory.md R77, R83, R84; 43_flash_commands.md R216, R217): what its
commands receive, and the statement. -/

namespace Sys2Proof.Machine

/-! ## What a shift receives -/

theorem getElem?_received (c : Cfg) (t : Target) (tx base : List Byte) (j : Nat) :
    (t.received c .dr tx base)[j]? =
      base[j]?.map fun b => (t.response c (t.frame ++ tx) (t.frame.length + j)).getD b := by
  simp [Target.received, Function.comp_def]

theorem length_received (c : Cfg) (t : Target) (tx base : List Byte) :
    (t.received c .dr tx base).length = base.length := by
  simp [Target.received]

@[simp] theorem length_rxOf (s : State) (k n : Nat) : (s.rxOf k n).length = n := by simp [State.rxOf]

/-- What a frame in an open DR stay receives from the target. -/
theorem spiRx_held {s : State} {t : Target} (htap : s.tap = .shiftDr) (ht : s.target = some t) (frame : List Byte) :
    s.spiRx [] s.tap frame = revBuf (t.received s.cfg .dr (revBuf frame) (s.rxOf 0 frame.length)) := by
  simp [State.spiRx, htap, goTos, State.rxAt, ht, Target.replay, answersOf]

/-- What the target holds of a read from an address, some of its bytes read already (43_flash_commands.md R216, R217). -/
def readFrame (c : Cfg) (a : Addr) (done : Nat) : List Byte :=
  revBuf (c.flashOps.read :: be24 a ++ List.replicate done 0)

theorem length_readFrame (c : Cfg) (a : Addr) (done : Nat) : (readFrame c a done).length = 4 + done := by
  simp [readFrame, be24]
  omega

/-- Fill bytes go on with a read. -/
theorem readFrame_append (c : Cfg) (a : Addr) (done n : Nat) :
    readFrame c a done ++ revBuf (List.replicate n 0) = readFrame c a (done + n) := by
  simp only [readFrame, ← revBuf_append, List.append_assoc, List.replicate_append_replicate]

/-- Byte j of what fill bytes receive in a read is the flash's byte j places on. -/
theorem spiRx_read {s : State} {t : Target} {a : Addr} {m n j : Nat} (hc : s.cfg.WfCodes) (htap : s.tap = .shiftDr)
    (ht : s.target = some t) (hmode : t.mode = .passthrough) (hbusy : t.busyPolls = 0)
    (hframe : t.frame = readFrame s.cfg a m) (hj : j < n) :
    (s.spiRx [] s.tap (List.replicate n 0))[j]? = some (t.mem.read ((a.toNat + m + j) % flashSpace)) := by
  have hresponse : t.response s.cfg (readFrame s.cfg a (m + n)) (4 + m + j) =
      some (rev8 (t.mem.read ((a.toNat + m + j) % flashSpace))) := by
    rw [Nat.add_assoc, Nat.add_assoc]
    exact response_read hc hmode hbusy rfl (m + j)
  rw [spiRx_held htap ht, getElem?_revBuf, getElem?_received, hframe, readFrame_append, length_readFrame, hresponse,
    List.length_replicate, List.getElem?_eq_getElem (by simpa using hj)]
  simp

/-! ## The commands -/

theorem fRead_onTarget {s : State} {t : Target} (hs : s.Ready) (h : s.FlashReady t) (a : Addr) :
    ∃ u, exec (.fRead a) s = .next u ∧ u.ReadingAt a 0 ∧ ∀ x, u.flashAt x = s.flashAt x := by
  have hmark := flashHazards_of_flashReady h
  obtain ⟨hfree, hpt, hpoll, htarget, hmode, hbusy, htap⟩ := h
  have hreplay := replay_opened (s := s) (e := []) (src := s.tap) (t := t) rfl htap rfl (s.cfg.flashOps.read :: be24 a)
  refine ⟨_, commit_ended (cmdFRead_ok a hs hmark (okFor_of_target htarget 2)), ?_, fun x => ?_⟩
  · refine ⟨hfree, hpt, hpoll, rfl, rfl, { t with frame := revBuf (s.cfg.flashOps.read :: be24 a) }, ?_, hmode, hbusy, ?_⟩
    · rw [State.answer_target, State.saw_target, htarget, Option.map_some, hreplay]
      rfl
    · rw [List.replicate_zero, List.append_nil]
      rfl
  · rw [State.flashAt, State.answer_target, State.saw_target, State.flashAt, htarget, Option.map_some, hreplay]
    rfl

theorem fContRead_onTarget {s : State} (hc : s.cfg.WfCodes) (hs : s.Ready) {a : Addr} {m : Nat} {n : Len}
    (h : s.ReadingAt a m) (hlen : xferLenOk s.cfg n.toNat = true) :
    ∃ u bs, exec (.fContRead n) s = .next u ∧ u.ReadingAt a (m + n.toNat) ∧ (∀ x, u.flashAt x = s.flashAt x) ∧
      u.results = s.results ++ [okResult (.bytes bs)] ∧ bs.length = n.toNat ∧
      ∀ j < n.toNat, bs[j]? = s.flashAt ((a.toNat + m + j) % 2 ^ 24) := by
  obtain ⟨hfree, hpt, hpoll, hopen, htap, t, htarget, hmode, hbusy, hframe⟩ := h
  have hmark : s = s.flashHazards .contRead := (flashHazards_clean hpt (.inl hpoll) (.inr rfl)).symm
  have hreplay := replay_continued (e := []) (s := s) (t := t) (t' := t) htap rfl (List.replicate n.toNat 0)
  rw [← htap] at hreplay
  refine ⟨_, s.spiRx [] s.tap (List.replicate n.toNat 0),
    commit_ended (cmdFContRead_ok hs hopen hlen hmark (okFor_of_target htarget 2)), ?_, fun x => ?_, rfl, ?_,
    fun j hj => ?_⟩
  · refine ⟨hfree, hpt, hpoll, hopen, rfl, { t with frame := readFrame s.cfg a (m + n.toNat) }, ?_, hmode, hbusy, rfl⟩
    rw [State.answer_target, State.saw_target, htarget, Option.map_some, hreplay]
    rw [← readFrame_append, hframe]
    rfl
  · rw [State.flashAt, State.answer_target, State.saw_target, State.flashAt, htarget, Option.map_some, hreplay]
    rfl
  · simp [spiRx_held htap htarget, length_received]
  · rw [spiRx_read hc htap htarget hmode hbusy hframe hj, State.flashAt, htarget]
    rfl

/-- Settles O56: `F_READ` leaves its header in the target's stay, each `F_CONT_READ` adds its fill bytes to it, and the flash
answers by the number of bytes in the stay. -/
theorem streamedReadOnTarget : Obligations.StreamedReadOnTarget := fun _ hs hwf =>
  ⟨fun _ a h => fRead_onTarget hs h a, fun _ _ _ h hlen => fContRead_onTarget hwf.2.1 hs h hlen⟩

end Sys2Proof.Machine
end

section
/-! SUPPORT. The host port's decoder (30_encoding.md R100 to R102, R109, R110): the fields of a header, when a descriptor
decodes and to what, and that the rows of the table decode what the encoder writes, and write back what they decode. -/

namespace Sys2Proof.Laws

/-! ## Fields of a header -/

section
variable (code value : Byte) (gran : BitVec 2) (addr : Addr)

@[simp] theorem hCode_mkHeader : hCode (mkHeader code value gran addr) = code :=
  (mkHeader_fields code value gran addr).1
@[simp] theorem hValue_mkHeader : hValue (mkHeader code value gran addr) = value :=
  (mkHeader_fields code value gran addr).2.1
@[simp] theorem hGran_mkHeader : hGran (mkHeader code value gran addr) = gran :=
  (mkHeader_fields code value gran addr).2.2.1
@[simp] theorem hAddr_mkHeader : hAddr (mkHeader code value gran addr) = addr :=
  (mkHeader_fields code value gran addr).2.2.2.1

end

/-- A header whose reserved bits are 0 is made of its fields (R100). -/
theorem mkHeader_of_reserved_zero {h : BitVec 64} (hlow : hReservedLow h = 0) (hhigh : hReservedHigh h = 0) :
    mkHeader (hCode h) (hValue h) (hGran h) (hAddr h) = h := by
  have hlow' : (hReservedLow h).toNat = 0 := congrArg BitVec.toNat hlow
  have hhigh' : (hReservedHigh h).toNat = 0 := congrArg BitVec.toNat hhigh
  have hbound := h.isLt
  apply BitVec.eq_of_toNat_eq
  rw [mkHeader_toNat]
  simp only [hCode, hValue, hGran, hAddr, hReservedLow, hReservedHigh, BitVec.extractLsb'_toNat,
    Nat.shiftRight_eq_div_pow] at *
  omega

/-! ## When a descriptor decodes -/

theorem ite_some_eq_none {p : Prop} [Decidable p] {e : DecodeError} {x : Option DecodeError} :
    (if p then some e else x) = none ↔ ¬p ∧ x = none := by
  by_cases h : p <;> simp [h]

theorem ite_error_eq_ok {p : Prop} [Decidable p] {e : DecodeError} {x : Except DecodeError Instr} {i : Instr} :
    (if p then .error e else x) = .ok i ↔ ¬p ∧ x = .ok i := by
  by_cases h : p <;> simp [h]

/-- A descriptor carries what a format reads and nothing else (R109, R110). -/
theorem formatError_eq_none_iff {fmt : Format} {d : Descriptor} :
    formatError fmt d = none ↔
      (fmt.value = true ∨ hValue d.header = 0) ∧ (fmt.gran = true ∨ hGran d.header = 0) ∧
      (fmt.addr = true ∨ hAddr d.header = 0) ∧ d.len.isSome = fmt.len ∧ (fmt.data = true ∨ d.data = []) := by
  simp only [formatError, ite_some_eq_none]
  simp [Decidable.imp_iff_not_or, and_assoc]

/-- A descriptor decodes to what its row builds, where its CODE is listed and its header and operands are in order
(R101, R102, R109). -/
theorem decodeHost_eq_ok_iff {d : Descriptor} {i : Instr} :
    decodeHost d = .ok i ↔ ∃ r, hostRow (hCode d.header) = some r ∧ hReservedLow d.header = 0 ∧
      hReservedHigh d.header = 0 ∧ formatError r.format d = none ∧ r.build d = i := by
  unfold decodeHost
  cases hrow : hostRow (hCode d.header) with
  | none => simp
  | some r =>
    cases hformat : formatError r.format d <;> simp only [hformat, ite_error_eq_ok] <;> simp [and_assoc, hformat]

theorem hostRow_eq_some {code : Byte} {r : HostRow} (h : hostRow code = some r) : r ∈ hostRows ∧ r.code = code :=
  ⟨List.mem_of_find?_eq_some h, by simpa using List.find?_some h⟩

/-! ## Decoding what is encoded -/

section
variable {code value : Byte} {gran : BitVec 2} {addr : Addr} {len : Option Len} {data : List Byte} {r : HostRow}

/-- A header made for a row, with the operands of the row's format, decodes to what the row builds of it. Each field is read
by the format, or 0. -/
theorem decodeHost_mkHeader {i : Instr} (hrow : hostRow code = some r) (hv : r.format.value = true ∨ value = 0)
    (hg : r.format.gran = true ∨ gran = 0) (ha : r.format.addr = true ∨ addr = 0) (hl : len.isSome = r.format.len)
    (hd : r.format.data = true ∨ data = []) (hbuild : r.build ⟨mkHeader code value gran addr, len, data⟩ = i) :
    decodeHost ⟨mkHeader code value gran addr, len, data⟩ = .ok i := by
  obtain ⟨hlow, hhigh, r', hrow', hformat⟩ := hostInputOk_of hrow hv hg ha hl hd
  have hsame : r' = r := Option.some.inj (hrow'.symm.trans (by rwa [hCode_mkHeader]))
  exact decodeHost_eq_ok_iff.mpr ⟨r, hsame ▸ hrow', hlow, hhigh, hsame ▸ hformat, hbuild⟩

end

/-! ## Encoding what was decoded -/

/-- What a row of the table reads of a descriptor: CODE and the fields and operands of its format, and 0 or nothing
elsewhere (R101, R102). -/
def written (r : HostRow) (d : Descriptor) : Descriptor where
  header := mkHeader r.code (if r.format.value then hValue d.header else 0) (if r.format.gran then hGran d.header else 0)
    (if r.format.addr then hAddr d.header else 0)
  len := if r.format.len then some d.lenOr0 else none
  data := if r.format.data then d.data else []

/-- The encoder writes what a row read, row by row of the table. -/
theorem encode_build (c : Cfg) (f : Family) (d : Descriptor) {r : HostRow} (hr : r ∈ hostRows) :
    encode c f (r.build d) = .host (written r d) := by
  unfold hostRows hostRowsLow hostRowsFlash hostRowsConfig hostRowsOrchestrator at hr
  repeat
    rcases hr with _ | ⟨_, hr⟩
    · rfl
  cases hr

theorem ite_eq_of_unread {α : Type} {b : Bool} {x y : α} (h : b = true ∨ x = y) : (if b then x else y) = x := by
  cases b <;> simp_all

/-- A descriptor in order holds nothing but what its row reads. -/
theorem written_of_inOrder {r : HostRow} {d : Descriptor} (hcode : r.code = hCode d.header)
    (hlow : hReservedLow d.header = 0) (hhigh : hReservedHigh d.header = 0) (hformat : formatError r.format d = none) :
    written r d = d := by
  obtain ⟨hv, hg, ha, hl, hd⟩ := formatError_eq_none_iff.mp hformat
  have hlen : (if r.format.len then some d.lenOr0 else none) = d.len := by
    rw [← hl, Descriptor.lenOr0]
    cases d.len <;> rfl
  rw [written, ite_eq_of_unread hv, ite_eq_of_unread hg, ite_eq_of_unread ha, ite_eq_of_unread hd, hlen, hcode,
    mkHeader_of_reserved_zero hlow hhigh]

/-- A host command that decodes is the encoding of what it decodes to. -/
theorem encode_of_decodeHost (c : Cfg) (f : Family) {d : Descriptor} {i : Instr} (h : decodeHost d = .ok i) :
    encode c f i = .host d := by
  obtain ⟨r, hrow, hlow, hhigh, hformat, rfl⟩ := decodeHost_eq_ok_iff.mp h
  obtain ⟨hmem, hcode⟩ := hostRow_eq_some hrow
  rw [encode_build c f d hmem, written_of_inOrder hcode hlow hhigh hformat]

end Sys2Proof.Laws
end

section
/-! SUPPORT. The decoders of the SPI and TAP frames (30_encoding.md R103 to R106), and the two statements on the round trip
between instructions and inputs. -/

namespace Sys2Proof.Laws

/-! ## SPI frames -/

theorem ofBe24_toNat (x y z : Byte) : (ofBe24 x y z).toNat = x.toNat * 2 ^ 16 + y.toNat * 2 ^ 8 + z.toNat := by
  have hy := y.isLt
  have hz := z.isLt
  rw [ofBe24, BitVec.toNat_append, BitVec.toNat_append, ← Nat.shiftLeft_add_eq_or_of_lt hy,
    ← Nat.shiftLeft_add_eq_or_of_lt hz, Nat.shiftLeft_eq, Nat.shiftLeft_eq]
  omega

/-- The address of three bytes has them as its address bytes (20_memory.md R73). -/
theorem be24_ofBe24 (x y z : Byte) : be24 (ofBe24 x y z) = [x, y, z] := by
  have hx := x.isLt
  have hy := y.isLt
  have hz := z.isLt
  simp only [be24, List.cons.injEq, and_true]
  refine ⟨?_, ?_, ?_⟩ <;> apply BitVec.eq_of_toNat_eq <;>
    rw [BitVec.extractLsb'_toNat, ofBe24_toNat, Nat.shiftRight_eq_div_pow] <;> omega

/-- A frame that starts with a name's opcode is read as that name's (R103). -/
theorem decodeSpi_get {c : Cfg} (hc : c.WfCodes) (n : FlashName) (rest : List Byte) :
    decodeSpi c (c.flashOps.get n :: rest) = decodeSpiFrame c n rest := by
  simp only [decodeSpi, flashNameOf_get hc]

/-- The opcode that is read as a name is the name's. -/
theorem get_of_flashNameOf {c : Cfg} {op : Byte} {n : FlashName} (h : flashNameOf c op = some n) :
    c.flashOps.get n = op := by
  simpa using List.find?_some h

/-- A read frame holds the bytes it reads as fill bytes (R105, SD). -/
theorem decodeSpiFrame_read (c : Cfg) (x y z : Byte) (count : Nat) :
    decodeSpiFrame c .read (x :: y :: z :: List.replicate count 0) = .ok (.opRead (ofBe24 x y z) count) := by
  refine (if_pos ?_).trans ?_ <;> rw [List.length_replicate]

/-- A status-register read frame holds one zero byte (R105, S1R). -/
theorem rest_eq_zero_of_decodeSpiFrame {c : Cfg} {n : FlashName} (hn : n = .rdsr1 ∨ n = .rdsr2 ∨ n = .rdsr3)
    {rest : List Byte} {i : Instr} (h : decodeSpiFrame c n rest = .ok i) : rest = [0] := by
  cases rest with
  | nil => rcases hn with rfl | rfl | rfl <;> cases h
  | cons b rest =>
    -- The pattern's zero byte is told apart by its number.
    obtain ⟨⟨_ | v, hlt⟩⟩ := b
    · cases rest with
      | nil => rfl
      | cons => rcases hn with rfl | rfl | rfl <;> cases h
    · rcases hn with rfl | rfl | rfl <;> cases h

/-- A frame decodes only in its name's format, which the encoder writes (R105). -/
theorem encode_of_decodeSpiFrame {c : Cfg} (f : Family) {n : FlashName} {rest : List Byte} {i : Instr}
    (h : decodeSpiFrame c n rest = .ok i) : encode c f i = .spi (c.flashOps.get n :: rest) := by
  cases n with
  | wren | wrdi | ce | fastRead =>
    cases rest with
    | nil => cases h; rfl
    | cons => cases h
  | rdsr1 | rdsr2 | rdsr3 =>
    obtain rfl := rest_eq_zero_of_decodeSpiFrame (by simp) h
    cases h
    rfl
  | wrsr1 | wrsr2 | wrsr3 =>
    match rest with
    | [v] => cases h; rfl
    | [] | _ :: _ :: _ => cases h
  | se4k | be32k | be64k =>
    match rest with
    | [x, y, z] =>
      cases h
      rw [encode, be24_ofBe24]
      rfl
    | [] | [_] | [_, _] | _ :: _ :: _ :: _ :: _ => cases h
  | pp =>
    match rest with
    | x :: y :: z :: data =>
      cases h
      rw [encode, be24_ofBe24]
      rfl
    | [] | [_] | [_, _] => cases h
  | rdid =>
    by_cases hfill : rest = List.replicate c.jedecIdLen 0
    · cases (if_pos hfill).symm.trans h
      rw [hfill]
      rfl
    · cases (if_neg hfill).symm.trans h
  | read =>
    match rest with
    | x :: y :: z :: fill =>
      by_cases hfill : fill = List.replicate fill.length 0
      · cases (if_pos hfill).symm.trans h
        rw [encode, be24_ofBe24, ← hfill]
        rfl
      · cases (if_neg hfill).symm.trans h
    | [] | [_] | [_, _] => cases h

/-- An SPI frame that decodes is the encoding of what it decodes to. -/
theorem encode_of_decodeSpi {c : Cfg} (f : Family) {frame : List Byte} {i : Instr} (h : decodeSpi c frame = .ok i) :
    encode c f i = .spi frame := by
  cases frame with
  | nil => cases h
  | cons op rest =>
    rw [decodeSpi] at h
    cases hname : flashNameOf c op with
    | none =>
      rw [hname] at h
      cases h
    | some n =>
      rw [hname] at h
      rw [encode_of_decodeSpiFrame f h, get_of_flashNameOf hname]

/-! ## TAP frames -/

theorem encode_irInstr (c : Cfg) (f : Family) (n : IrName) : encode c f (irInstr n) = .tap ((c.fam f).ir.get n) := by
  cases n <;> rfl

/-- The nine instruction values of every family are distinct (R104). -/
theorem irCodes_nodup {c : Cfg} (hc : c.WfCodes) (f : Family) : (c.irCodes f).Nodup := by
  obtain ⟨-, hA, hB⟩ := hc
  cases f with
  | familyB => exact hB
  | _ => exact hA

/-- A family's instruction value is decoded as its instruction when the values are distinct (R104). -/
theorem decodeTap_get {c : Cfg} (hc : c.WfCodes) (f : Family) (n : IrName) :
    decodeTap c f ((c.fam f).ir.get n) = .ok (irInstr n) := by
  obtain ⟨hfirst, hrest⟩ := List.nodup_cons.mp (irCodes_nodup hc f)
  have hmem : n ∈ IrName.all := by cases n <;> decide
  have hne : (c.fam f).ir.get n ≠ c.irIdcode := fun h => hfirst (h ▸ List.mem_map_of_mem hmem)
  rw [decodeTap, if_neg hne, find_of_nodup hrest hmem]

theorem decodeTap_idcode (c : Cfg) (f : Family) : decodeTap c f c.irIdcode = .ok .irIdcode := if_pos rfl

/-- A TAP frame that decodes is the encoding of what it decodes to. -/
theorem encode_of_decodeTap {c : Cfg} {f : Family} {code : Byte} {i : Instr} (h : decodeTap c f code = .ok i) :
    encode c f i = .tap code := by
  rw [decodeTap] at h
  split at h
  case isTrue hcode =>
    cases h
    rw [hcode]
    rfl
  case isFalse =>
    split at h <;> cases h
    case h_1 n hfind =>
      rw [encode_irInstr]
      simpa using List.find?_some hfind

/-! ## The round trip -/

/-- What the encoder writes decodes to the instruction: a host command by its row and format, a frame by its opcode or
value. -/
theorem decode_encode {c : Cfg} (hc : c.WfCodes) (f : Family) (i : Instr) : decode c f (encode c f i) = .ok i := by
  cases i with
  -- Format H0
  | sessionClose | spiEnd | readIdcode | readStatus | fWren | fWrdi | fRdsr1 | fRdsr2 | fRdsr3 | fCe | fRdid | fWait
  | fUnprotect | fReset | cEnable | cErase | cDisable | cResetCrc | cBurst | cRefresh | cPassthrough | mIdentify =>
    rw [encode, hostPlain, decode]
    exact decodeHost_mkHeader rfl (.inr rfl) (.inr rfl) (.inr rfl) rfl (.inr rfl) rfl
  -- Format D
  | sessionOpen data | spiXfer data | spiStream data | cBurstData data =>
    rw [encode, hostData, decode]
    exact decodeHost_mkHeader rfl (.inr rfl) (.inr rfl) (.inr rfl) rfl (.inl rfl) rfl
  -- Formats V and O
  | fWrsr1 v | fWrsr2 v | fWrsr3 v | mProbe v =>
    exact decodeHost_mkHeader rfl (.inl rfl) (.inr rfl) (.inr rfl) rfl (.inr rfl) (by simp)
  -- Format A
  | fSe4k a | fBe32k a | fBe64k a | fRead a =>
    exact decodeHost_mkHeader rfl (.inr rfl) (.inr rfl) (.inl rfl) rfl (.inr rfl) (by simp)
  -- Format N
  | fContRead len =>
    rw [encode, hostLen, decode]
    exact decodeHost_mkHeader rfl (.inr rfl) (.inr rfl) (.inr rfl) rfl (.inr rfl) rfl
  -- The formats of several operands
  | fPp a data => exact decodeHost_mkHeader rfl (.inr rfl) (.inr rfl) (.inl rfl) rfl (.inl rfl) (by simp)
  | mLoadSram data opts => exact decodeHost_mkHeader rfl (.inl rfl) (.inr rfl) (.inr rfl) rfl (.inl rfl) (by simp)
  | mProgram offset gran data opts =>
    exact decodeHost_mkHeader rfl (.inl rfl) (.inl rfl) (.inl rfl) rfl (.inl rfl) (by simp)
  | mRead offset len opts =>
    exact decodeHost_mkHeader rfl (.inl rfl) (.inr rfl) (.inl rfl) rfl (.inr rfl) (by simp [Descriptor.lenOr0])
  | mErase offset len gran opts =>
    exact decodeHost_mkHeader rfl (.inl rfl) (.inl rfl) (.inl rfl) rfl (.inr rfl) (by simp [Descriptor.lenOr0])
  | mVerify offset data opts =>
    exact decodeHost_mkHeader rfl (.inl rfl) (.inr rfl) (.inl rfl) rfl (.inl rfl) (by simp)
  -- SPI frames
  | opWren => exact decodeSpi_get hc .wren []
  | opWrdi => exact decodeSpi_get hc .wrdi []
  | opRdsr1 => exact decodeSpi_get hc .rdsr1 [0]
  | opRdsr2 => exact decodeSpi_get hc .rdsr2 [0]
  | opRdsr3 => exact decodeSpi_get hc .rdsr3 [0]
  | opWrsr1 v => exact decodeSpi_get hc .wrsr1 [v]
  | opWrsr2 v => exact decodeSpi_get hc .wrsr2 [v]
  | opWrsr3 v => exact decodeSpi_get hc .wrsr3 [v]
  | opCe => exact decodeSpi_get hc .ce []
  | opSe4k a => exact (decodeSpi_get hc .se4k (be24 a)).trans (congrArg (Except.ok ∘ Instr.opSe4k) (ofBe24_be24 a))
  | opBe32k a => exact (decodeSpi_get hc .be32k (be24 a)).trans (congrArg (Except.ok ∘ Instr.opBe32k) (ofBe24_be24 a))
  | opBe64k a => exact (decodeSpi_get hc .be64k (be24 a)).trans (congrArg (Except.ok ∘ Instr.opBe64k) (ofBe24_be24 a))
  | opPp a data =>
    exact (decodeSpi_get hc .pp (be24 a ++ data)).trans (congrArg (fun x => Except.ok (Instr.opPp x data)) (ofBe24_be24 a))
  | opRdid => exact (decodeSpi_get hc .rdid _).trans (if_pos rfl)
  | opFastRead => exact decodeSpi_get hc .fastRead []
  | opRead a count =>
    refine (decodeSpi_get hc .read (be24 a ++ List.replicate count 0)).trans ?_
    exact (decodeSpiFrame_read c _ _ _ count).trans (congrArg (fun x => Except.ok (Instr.opRead x count)) (ofBe24_be24 a))
  -- TAP frames
  | irIdcode => exact decodeTap_idcode c f
  | irStatus => exact decodeTap_get hc f .status
  | irEnable => exact decodeTap_get hc f .enable
  | irErase => exact decodeTap_get hc f .erase
  | irDisable => exact decodeTap_get hc f .disable
  | irResetCrc => exact decodeTap_get hc f .resetCrc
  | irBurst => exact decodeTap_get hc f .burst
  | irRefresh => exact decodeTap_get hc f .refresh
  | irPassthrough => exact decodeTap_get hc f .passthrough

/-- Settles O1, by cases on the instruction: its row, opcode or instruction value is found again. -/
theorem decodeOfEncode : Obligations.DecodeOfEncode := fun _ f i hc => decode_encode hc f i

/-- Settles O2, one decoder at a time. -/
theorem encodeOfDecode : Obligations.EncodeOfDecode := by
  intro c f x i h
  cases x with
  | host d => exact encode_of_decodeHost c f h
  | spi frame => exact encode_of_decodeSpi f h
  | tap code => exact encode_of_decodeTap h

end Sys2Proof.Laws
end

section
/-! SUPPORT. The host port's answer to a malformed header (30_encoding.md R109), and the words of the opcode table that are
written out: the two statements on them. -/

namespace Sys2Proof.Machine

/-! ## Malformed headers -/

/-- A header that R109 calls malformed: its CODE is not listed, a reserved bit is set, or a field that its format does not
read is not 0. -/
def MalformedHeader (h : BitVec 64) : Prop :=
  hostRow (hCode h) = none ∨ hReservedLow h ≠ 0 ∨ hReservedHigh h ≠ 0 ∨
    ∃ r, hostRow (hCode h) = some r ∧
      ((r.format.value = false ∧ hValue h ≠ 0) ∨ (r.format.gran = false ∧ hGran h ≠ 0) ∨
        (r.format.addr = false ∧ hAddr h ≠ 0))

/-- No descriptor with a malformed header decodes. -/
theorem decodeHost_of_malformed {d : Descriptor} (h : MalformedHeader d.header) : ∃ e, decodeHost d = .error e := by
  cases hdec : decodeHost d with
  | error e => exact ⟨e, rfl⟩
  | ok i =>
    obtain ⟨r, hrow, hlow, hhigh, hformat, -⟩ := Laws.decodeHost_eq_ok_iff.mp hdec
    obtain ⟨hvalue, hgran, haddr, -, -⟩ := Laws.formatError_eq_none_iff.mp hformat
    rcases h with hnone | hlow' | hhigh' | ⟨r', hrow', hfield⟩
    · simp [hrow] at hnone
    · exact absurd hlow hlow'
    · exact absurd hhigh hhigh'
    · obtain rfl : r = r' := Option.some.inj (hrow.symm.trans hrow')
      rcases hfield with ⟨hunread, hset⟩ | ⟨hunread, hset⟩ | ⟨hunread, hset⟩ <;> simp_all

/-- Where the session does not come first, the reason is BAD_COMMAND (R109, 60_exceptions.md R339; log 8). -/
theorem headerReason_badCommand {session : Session} {code : Byte} (h : session = .opened ∨ code = 0x01) :
    headerReason session code = .badCommand := by
  unfold headerReason
  rcases h with rfl | rfl <;> simp

/-- Settles O4: a malformed header does not decode, and an input that does not decode is answered with the reason of its
header. -/
theorem malformedHeaderIsRefused : Obligations.MalformedHeaderIsRefused := by
  intro s d rest htask hinbox hsession hmalformed
  obtain ⟨e, hdec⟩ := decodeHost_of_malformed hmalformed
  rw [step_of_decode_error htask hinbox (e := e) hdec, rejectInput, headerReason_badCommand hsession]
  rfl

/-! ## Words of the table -/

/-- Settles O3, by evaluating the decoder on each word. -/
theorem tableWordsDecode : Obligations.TableWordsDecode := by
  refine ⟨?_, ?_, ?_, ?_, ?_, ?_, ?_, ?_, ?_⟩ <;> rfl

end Sys2Proof.Machine
end

section
/-! SUPPORT. The SPI and TAP rows of the opcode table, each one frame or one transaction sent by itself (30_encoding.md R103
to R106; log 10): their runs when the oracle answers Ok, and the three statements on them. -/

namespace Sys2Proof.Machine

section
variable {s : State}

theorem answersOf_goTos_succ (src dst : TapState) : answersOf (goTos src dst) + 1 ≤ 2 :=
  Nat.succ_le_succ (answersOf_goTos src dst)

/-! ## Rows of one SPI frame -/

theorem frameRow_ok (hs : s.Ready) (hok : s.OkFor 2) (n : FlashName) (operands : List Byte) :
    frameRow n operands s = .ok (.ended .ok .none)
      ((s.saw (s.framed [] s.tap (s.cfg.flashOps.get n :: operands) true) (exitState s.cfg .dr) false false).afterFrame
        n) :=
  bind_trans (checks_ok hs) (bind_trans (sendFrame_ok n operands hs.2 hok (answersOf_goTos_succ _ _)) rfl)

theorem readRow_ok (hs : s.Ready) (hok : s.OkFor 2) (n : FlashName) :
    readRow n s = .ok (.ended .ok (.byte ((s.spiRx [] s.tap [s.cfg.flashOps.get n, 0]).getD 1 0)))
      ((s.saw (s.framed [] s.tap [s.cfg.flashOps.get n, 0] true) (exitState s.cfg .dr) false false).afterFrame n) :=
  bind_trans (checks_ok hs) (bind_trans (sendFrame_ok n [0] hs.2 hok (answersOf_goTos_succ _ _)) rfl)

/-- The mark is made before the frame is sent (43_flash_commands.md R223). -/
theorem writeRow_ok (hs : s.Ready) {m : State} (hm : m = s.writeEnableHazard) (hok : m.OkFor 2) (n : FlashName)
    (v : Byte) :
    writeRow n v s = .ok (.ended .ok .none)
      ((m.afterFrame n).saw (m.framed [] m.tap [m.cfg.flashOps.get n, v] true) (exitState m.cfg .dr) false false) := by
  have herr : m.err = false := by simp [hm, hs.2]
  exact bind_trans (checks_ok hs) (bind_trans (sendRegisterWrite_ok n v hm herr hok (answersOf_goTos_succ _ _)) rfl)

theorem cmdOpRdid_ok (hs : s.Ready) (hok : s.OkFor 2) :
    cmdOpRdid s = .ok
      (.ended .ok (.bytes ((s.spiRx [] s.tap (s.cfg.flashOps.rdid :: List.replicate s.cfg.jedecIdLen 0)).drop 1)))
      (s.saw (s.framed [] s.tap (s.cfg.flashOps.rdid :: List.replicate s.cfg.jedecIdLen 0) true) (exitState s.cfg .dr)
        false false) := by
  have hsend := sendFrame_ok .rdid (List.replicate s.cfg.jedecIdLen 0) hs.2 hok (answersOf_goTos_succ _ _)
  exact bind_trans (checks_ok hs) (bind_trans (bind_trans (get_run s) (bind_trans hsend rfl)) rfl)

/-! ## Rows of a held transaction -/

/-- The header of a held transaction takes two answers at most, and the bytes that follow it one. -/
theorem answersOf_header_goTos (s : State) (op : Byte) (a : Addr) :
    answersOf (s.framed [] s.tap (op :: be24 a) false ++ goTos .shiftDr .shiftDr) + 1 ≤ 3 := by
  have hheader := answersOf_framed s [] s.tap (op :: be24 a) false
  rw [goTos, if_pos rfl, List.append_nil]
  exact Nat.succ_le_succ hheader

theorem cmdOpPp_ok (hs : s.Ready) (hok : s.OkFor 3) {a : Addr} {data : List Byte}
    (hlen : pageLenOk s.cfg a data.length = true) :
    cmdOpPp a data s = .ok (.ended .ok .none)
      (({ s with weIssued := false, mustPoll := true } : State).saw
        (s.framed (s.framed [] s.tap (s.cfg.flashOps.pp :: be24 a) false) .shiftDr data true) (exitState s.cfg .dr) false
        false) := by
  have hdata : data ≠ [] := by
    rintro rfl
    simp [pageLenOk] at hlen
  have hsend := sendPage_saw (e := []) (rd := s.rdOpen) (bo := s.burstOpen) a data hs.2 hok
    (Nat.succ_le_succ (answersOf_goTos_succ s.tap .shiftDr)) rfl hdata
  rw [saw_nil] at hsend
  refine bind_trans (get_run s) ?_
  rw [hlen]
  exact bind_trans (checks_ok hs) (bind_trans hsend rfl)

/-- The read header leaves chip select held and the read open (43_flash_commands.md R216). -/
theorem openRead_ok (hs : s.Ready) (hok : s.OkFor 3) (a : Addr) :
    openRead a s = .ok ()
      (s.saw (s.framed [] s.tap (s.cfg.flashOps.read :: be24 a) false) .shiftDr true s.burstOpen) :=
  bind_trans (sendHeader_ok .read a hs.2 (okFor_mono hok (by decide)) (answersOf_goTos_succ _ _)) rfl

theorem cmdOpRead_none (hs : s.Ready) (hok : s.OkFor 3) (a : Addr) :
    cmdOpRead a 0 s = .ok (.ended .ok (.bytes []))
      (s.saw (s.framed [] s.tap (s.cfg.flashOps.read :: be24 a) false) .shiftDr true s.burstOpen) :=
  bind_trans (get_run s) (bind_trans (checks_ok hs) (bind_trans (openRead_ok hs hok a) rfl))

theorem cmdOpRead_some (hs : s.Ready) (hok : s.OkFor 3) (a : Addr) {count : Nat} (hcount : 1 ≤ count)
    (hmax : count ≤ s.cfg.maxXferBytes) :
    cmdOpRead a count s = .ok
      (.ended .ok (.bytes (s.spiRx (s.framed [] s.tap (s.cfg.flashOps.read :: be24 a) false) .shiftDr
        (List.replicate count 0))))
      (s.saw (s.framed (s.framed [] s.tap (s.cfg.flashOps.read :: be24 a) false) .shiftDr (List.replicate count 0) false)
        .shiftDr true s.burstOpen) := by
  have hfill : List.replicate count (0 : Byte) ≠ [] := by simp; omega
  have hread := streamSPI_saw (rd := true) (bo := s.burstOpen) (List.replicate count 0) hs.2 hok
    (answersOf_header_goTos s s.cfg.flashOps.read a) (tapAfter_held _ rfl).symm hfill
  refine bind_trans (get_run s) ?_
  rw [decide_eq_true hmax]
  refine bind_trans (checks_ok hs) (bind_trans (openRead_ok hs hok a) ?_)
  rw [if_neg (by omega)]
  exact bind_trans hread rfl

/-! ## TAP rows -/

/-- The state after a TAP instruction was loaded by itself (30_encoding.md R106, 44_config_sequencer.md R260). -/
def State.loadedIr (s : State) (code : Byte) : State :=
  { s.saw (s.loaded [] s.tap code) (exitState s.cfg .ir) (s.rdOpen && survives s.tap .shiftIr)
      (s.burstOpen && survives s.tap .shiftIr) with pt := false }

/-- The instruction register is eight bits long whatever the family (log 13). -/
theorem irLoad_loadedIr (hs : s.Ready) (hc : s.cfg.Wf) (hok : s.OkFor 2) (f : Family) (code : Byte) :
    irLoad code (s.cfg.fam f).irLen s = .ok () (s.loadedIr code) := by
  rw [irLen_eq hc f]
  exact irLoad_ok code hs.2 hok (answersOf_goTos_succ _ _)

theorem cmdIrIdcode_ok (hs : s.Ready) (hc : s.cfg.Wf) (hok : s.OkFor 2) :
    cmdIrIdcode s = .ok (.ended .ok .none) (s.loadedIr s.cfg.irIdcode) :=
  bind_trans (checks_ok hs) (bind_trans (get_run s) (bind_trans (irLoad_loadedIr hs hc hok .familyA _) rfl))

theorem irRow_ok (hs : s.Ready) (hc : s.cfg.Wf) (hok : s.OkFor 2) {f : Family} (hf : s.knownFamily = some f)
    (n : IrName) : irRow n s = .ok (.ended .ok .none) (s.loadedIr ((s.cfg.fam f).ir.get n)) :=
  bind_trans (checks_ok hs) (bind_trans (cfgFamily_ok hf) (bind_trans (get_run s)
    (bind_trans (irLoad_loadedIr hs hc hok f _) rfl)))

end

/-! ## The statements -/

/-- Settles O48: a row is the checks and its frame, with what the frame leaves. -/
theorem spiFrameRows : Obligations.SpiFrameRows := by
  intro s hs hok sent ops byte1 idFrame
  refine ⟨commit_ended (frameRow_ok hs hok .wren []), commit_ended (frameRow_ok hs hok .wrdi []),
    commit_ended (readRow_ok hs hok .rdsr1), commit_ended (readRow_ok hs hok .rdsr2),
    commit_ended (readRow_ok hs hok .rdsr3), commit_ended (cmdOpRdid_ok hs hok),
    commit_ended (frameRow_ok hs hok .ce []), fun v => ?_, fun a => ?_⟩
  · intro m hm write
    have hcfg : m.cfg.flashOps = ops := by simp [m, ops]
    have hwrite := fun n => commit_ended (writeRow_ok hs (m := m) rfl hm n v)
    rw [hcfg] at hwrite
    exact ⟨hwrite .wrsr1, hwrite .wrsr2, hwrite .wrsr3⟩
  · intro erase
    exact ⟨commit_ended (frameRow_ok hs hok .se4k (be24 a)), commit_ended (frameRow_ok hs hok .be32k (be24 a)),
      commit_ended (frameRow_ok hs hok .be64k (be24 a))⟩

/-- Settles O49: the header is held, and the data or the fill bytes go on with its transaction. -/
theorem spiHeldRows : Obligations.SpiHeldRows := by
  intro s a hs hok header
  exact ⟨fun data hlen => commit_ended (cmdOpPp_ok hs hok hlen), commit_ended (cmdOpRead_none hs hok a),
    fun count hcount hmax => commit_ended (cmdOpRead_some hs hok a hcount hmax), rfl⟩

/-- Settles O50: a row is the checks, the family where it needs one, and one IR shift. -/
theorem tapRows : Obligations.TapRows := by
  intro s hs hc hok after
  refine ⟨commit_ended (cmdIrIdcode_ok hs hc hok), fun f hf => ?_⟩
  have hrow := fun n => commit_ended (irRow_ok hs hc hok hf n)
  exact ⟨hrow .status, hrow .enable, hrow .erase, hrow .disable, hrow .resetCrc, hrow .burst, hrow .refresh,
    hrow .passthrough⟩

end Sys2Proof.Machine
end

section
/-! SUPPORT. The statement of 40_bit_order.md: bit reversal on a byte (R140, R141) and on a byte sequence (R142). -/

namespace Sys2Proof

/-- A byte has exactly one preimage under `rev8`, its own reversal (40_bit_order.md R141). -/
theorem rev8_eq_iff {x y : Byte} : rev8 x = y ↔ x = rev8 y :=
  ⟨fun h => by rw [← h, rev8_rev8], fun h => by rw [h, rev8_rev8]⟩

/-- Settles O24: `rev8` is a bijection because it undoes itself, and `revBuf` is `rev8` at each position. -/
theorem bitReversal : Obligations.BitReversal :=
  ⟨fun b _ hi => getLsbD_rev8 b hi, rev8_rev8, fun y => ⟨rev8 y, rev8_rev8 y, fun _ => rev8_eq_iff.mp⟩,
    fun s => ⟨Machine.revBuf_length s, getElem?_revBuf s, revBuf_revBuf s⟩⟩

end Sys2Proof
end

section
/-! SUPPORT. The statement of 41_spi_bridge.md about the bridge's own commands: the common checks, then one primitive (R155 to
R157). -/

namespace Sys2Proof.Machine

/-- The length check leaves the primitives' assertion nothing to catch (41_spi_bridge.md R152, log 20). -/
theorem ne_nil_of_xferLenOk {c : Cfg} {data : List Byte} (h : xferLenOk c data.length = true) : data ≠ [] := by
  rintro rfl
  simp [xferLenOk] at h

section
variable {s : State}

/-- The exit of the shift has ended a streamed read already, so that the command's own clearing of `rdOpen` changes nothing
(10_state.md R45, 41_spi_bridge.md R155). -/
theorem cmdSpiXfer_ok (hs : s.Ready) (hok : s.OkFor 2) {data : List Byte}
    (hlen : xferLenOk s.cfg data.length = true) :
    cmdSpiXfer data s = .ok (.ended .ok (.bytes (s.spiRx [] s.tap data)))
      (s.saw (s.framed [] s.tap data true) (exitState s.cfg .dr) false false) := by
  have hsend := transactSPI_ok data hs.2 hok (answersOf_goTos_succ _ _) (ne_nil_of_xferLenOk hlen)
  refine bind_trans (get_run s) ?_
  rw [hlen]
  exact bind_trans (checks_ok hs) (bind_trans hsend rfl)

/-- The shift is held, so that a streamed read and a burst stay open (41_spi_bridge.md R156). -/
theorem cmdSpiStream_ok (hs : s.Ready) (hok : s.OkFor 2) {data : List Byte}
    (hlen : xferLenOk s.cfg data.length = true) :
    cmdSpiStream data s = .ok (.ended .ok (.bytes (s.spiRx [] s.tap data)))
      (s.saw (s.framed [] s.tap data false) .shiftDr s.rdOpen s.burstOpen) := by
  have hsend := streamSPI_ok data hs.2 hok (answersOf_goTos_succ _ _) (ne_nil_of_xferLenOk hlen)
  refine bind_trans (get_run s) ?_
  rw [hlen]
  exact bind_trans (checks_ok hs) (bind_trans hsend rfl)

/-- The end of a held transaction is a move and no shift (41_spi_bridge.md R157). -/
theorem cmdSpiEnd_ok (hs : s.Ready) (hok : s.OkFor 2) :
    cmdSpiEnd s = .ok (.ended .ok .none)
      (s.saw (goTos s.tap .runTestIdle) .runTestIdle (s.rdOpen && survives s.tap .runTestIdle)
        (s.burstOpen && survives s.tap .runTestIdle)) :=
  bind_trans (checks_ok hs) (bind_trans (tapGoTo_ok .runTestIdle hs.2 hok Nat.two_pos) rfl)

end

/-- Settles O32: each command is the checks and one primitive, and the state is what the primitive leaves. -/
theorem spiCommands : Obligations.SpiCommands := fun _ hs hok =>
  ⟨fun _ hlen => ⟨commit_ended (cmdSpiXfer_ok hs hok hlen), commit_ended (cmdSpiStream_ok hs hok hlen)⟩,
    commit_ended (cmdSpiEnd_ok hs hok)⟩

end Sys2Proof.Machine
end

section
/-! SUPPORT. The tables of 42_identity_status.md: the lookup of an IDCODE (R172) and the status decoder (R176, R180). -/

namespace Sys2Proof.Machine

/-! ## The lookup of an IDCODE -/

section
variable {c : Cfg} {id : BitVec 32} {e : BitVec 32 × String}

theorem find?_idcode_eq_none {table : List (BitVec 32 × String)} (h : ∀ e ∈ table, e.1 ≠ id) :
    (table.find? fun e => e.1 == id) = none := List.find?_eq_none.mpr (by simpa using h)

theorem lookupId_of_familyA (h : (c.famA.idTable.find? fun e => e.1 == id) = some e) :
    lookupId c id = ⟨.familyA, id, e.2⟩ := by simp only [lookupId, h]

theorem lookupId_of_familyB (hA : ∀ e ∈ c.famA.idTable, e.1 ≠ id)
    (h : (c.famB.idTable.find? fun e => e.1 == id) = some e) : lookupId c id = ⟨.familyB, id, e.2⟩ := by
  simp only [lookupId, find?_idcode_eq_none hA, h]

theorem lookupId_of_absent (hA : ∀ e ∈ c.famA.idTable, e.1 ≠ id) (hB : ∀ e ∈ c.famB.idTable, e.1 ≠ id) :
    lookupId c id = ⟨.unknown, id, ""⟩ := by
  simp only [lookupId, find?_idcode_eq_none hA, find?_idcode_eq_none hB]

/-- Whichever table has it, if any, the IDCODE itself is kept. -/
@[simp] theorem lookupId_idcode (c : Cfg) (id : BitVec 32) : (lookupId c id).idcode = id := by
  unfold lookupId
  split
  · rfl
  · split <;> rfl

end

/-- Settles O34: table A is searched first, and table B where it has no entry. -/
theorem idcodeLookup : Obligations.IdcodeLookup := fun c id =>
  ⟨lookupId_idcode c id, fun _ h => lookupId_of_familyA h, fun _ hA h => lookupId_of_familyB hA h, lookupId_of_absent⟩

/-! ## The status decoder -/

section
variable (v off : Nat) (label : String)

theorem decodeField_label (e : FieldEntry) : (decodeField v e).1 = e.label := by
  obtain ⟨offset, width, label, kind⟩ := e
  cases kind with
  | flag => rfl
  | meanings table =>
    dsimp only [decodeField]
    split <;> rfl

theorem decodeField_flag : decodeField v ⟨off, 1, label, .flag⟩ = (label, .flag (v.testBit off)) := by
  rw [Nat.testBit_eq_decide_div_mod_eq]
  rfl

section
variable {v off} {w : Nat} {table : List (Nat × String)}

theorem decodeField_meaning {m : Nat × String} (h : (table.find? fun m => m.1 == v / 2 ^ off % 2 ^ w) = some m) :
    decodeField v ⟨off, w, label, .meanings table⟩ = (label, .name m.2) := by simp only [decodeField, h]

theorem decodeField_reserved (h : (table.find? fun m => m.1 == v / 2 ^ off % 2 ^ w) = none) :
    decodeField v ⟨off, w, label, .meanings table⟩ = (label, .name reservedName) := by simp only [decodeField, h]

end

theorem getElem?_decodeStatus {c : Cfg} {f : Family} {k : Nat} {e : FieldEntry}
    (h : (c.fam f).statusDecode[k]? = some e) : (decodeStatus c f v)[k]? = some (decodeField v e) := by
  rw [decodeStatus, List.getElem?_map, h]
  rfl

end

/-- Settles O27: the decoder maps the table entry by entry; a value is the name of its first meaning, or reserved. -/
theorem statusDecoding : Obligations.StatusDecoding := by
  refine fun c f v => ⟨?_, fun k off w label => ⟨?_, fun table hk => ?_⟩⟩
  · rw [decodeStatus, List.map_map]
    exact List.map_congr_left fun e _ => decodeField_label v e
  · rintro hk rfl
    rw [getElem?_decodeStatus v hk, decodeField_flag]
  · cases hfind : table.find? fun m => m.1 == v / 2 ^ off % 2 ^ w with
    | none =>
      refine ⟨reservedName, ?_, fun _ => rfl, nofun⟩
      rw [getElem?_decodeStatus v hk, decodeField_reserved label hfind]
    | some m =>
      refine ⟨m.2, ?_, fun hnone => ?_, fun m' hm => by rw [Option.some.inj hm]⟩
      · rw [getElem?_decodeStatus v hk, decodeField_meaning label hfind]
      · exact absurd (by simpa using List.find?_some hfind) (hnone m (List.mem_of_find?_eq_some hfind))

end Sys2Proof.Machine
end

section
/-! SUPPORT. `READ_IDCODE` and `READ_STATUS` where every answer is Ok (42_identity_status.md R170 to R174): each loads a TAP
instruction and reads a data register, from which it makes its result. -/

namespace Sys2Proof.Machine

section
variable {s : State}

/-- The events up to the read of a data register: its instruction, and the move into SHIFT_DR (30_encoding.md R106). -/
def State.registerEvents (s : State) (code : Byte) : List Event := s.loaded [] s.tap code ++ [.goTo .shiftDr]

/-- The state after the read, which ended passthrough by its IR shift (44_config_sequencer.md R260), and a streamed read and
a burst by its exit (10_state.md R45). -/
def State.registerRead (s : State) (code : Byte) (tx : List Byte) : State :=
  { s.saw (s.shifted (s.registerEvents code) .dr tx true) (exitState s.cfg .dr) false false with pt := false }

/-- The instruction leaves the TAP outside SHIFT_DR, so that the read begins with a move. -/
theorem goTos_exitState_shiftDr (c : Cfg) (reg : Reg) : goTos (exitState c reg) .shiftDr = [.goTo .shiftDr] :=
  if_neg (exitState_ne_shiftDr c reg)

theorem irLoad_drRead_ok (hs : s.Ready) (hc : s.cfg.Wf) (hok : s.OkFor 4) (f : Family) (code : Byte) {bits : Nat}
    (hbits : 8 ∣ bits) :
    (irLoad code (s.cfg.fam f).irLen >>= fun _ => drRead bits) s =
      .ok (s.rxAt (s.registerEvents code) .dr (List.replicate (bits / 8) 0))
        (s.registerRead code (List.replicate (bits / 8) 0)) := by
  have hload := irLoad_loadedIr hs hc (okFor_mono hok (by decide)) f code
  have hanswers := answersOf_loaded s [] s.tap code
  have hread := move_shift_dr_saw (s := { s with pt := false }) (e := s.loaded [] s.tap code) (t := exitState s.cfg .ir)
    (rd := s.rdOpen && survives s.tap .shiftIr) (bo := s.burstOpen && survives s.tap .shiftIr) (n := 4)
    (List.replicate (bits / 8) 0) bits true hs.2 hok
    (by rw [goTos_exitState_shiftDr]; simp [answersOf] at hanswers ⊢; omega) (tapAfter_loaded s [] s.tap code).symm
    (by simp; omega)
  rw [goTos_exitState_shiftDr, Bool.not_true, Bool.and_false, Bool.and_false] at hread
  exact bind_trans hload hread

/-- The fresh device is the session's if it has none (42_identity_status.md R173). -/
theorem cmdReadIdcode_ok (hs : s.Ready) (hc : s.cfg.Wf) (hok : s.OkFor 4) :
    cmdReadIdcode s = .ok (.ended .ok (.device s.freshDevice))
      { s.registerRead s.cfg.irIdcode [0, 0, 0, 0] with dev := s.dev <|> some s.freshDevice } :=
  bind_trans (checks_ok hs) (bind_trans (get_run s)
    (bind_trans₂ (irLoad_drRead_ok hs hc hok .familyA s.cfg.irIdcode (bits := 32) (by decide)) rfl))

theorem cmdReadStatus_ok (hs : s.Ready) (hc : s.cfg.Wf) {f : Family} (hf : s.knownFamily = some f) (hok : s.OkFor 4)
    {zeros : List Byte} (hzeros : zeros = List.replicate ((s.cfg.fam f).statusBits / 8) 0) {v : Nat}
    (hv : v = assemble s.cfg.wordAssembly (s.rxAt (s.registerEvents (s.cfg.fam f).ir.status) .dr zeros)) :
    cmdReadStatus s =
      .ok (.ended .ok (.status ⟨(s.cfg.fam f).statusBits, v, decodeStatus s.cfg f v⟩))
        (s.registerRead (s.cfg.fam f).ir.status zeros) := by
  subst hzeros hv
  exact bind_trans (checks_ok hs) (bind_trans (cfgFamily_ok hf) (bind_trans (get_run s)
    (bind_trans₂ (irLoad_drRead_ok hs hc hok f (s.cfg.fam f).ir.status (statusBits_dvd hc f)) rfl)))

end

theorem orElse_some_eq_ite {α : Type} [DecidableEq α] (d : Option α) (x : α) :
    (d <|> some x) = if d = none then some x else d := by cases d <;> rfl

/-- Settles O33: the checks, the read of the IDCODE register, and the fresh device, which becomes the session's. -/
theorem readIdcodeResult : Obligations.ReadIdcodeResult := fun s hs hc hok =>
  commit_of_ok (cmdReadIdcode_ok hs hc hok) (by rw [orElse_some_eq_ite]; rfl)

/-- Settles O35: the checks, the family, the read of its status register, and the decoded word. -/
theorem readStatusResult : Obligations.ReadStatusResult := fun _ _ hs hc hf hok =>
  commit_ended (cmdReadStatus_ok hs hc hf hok rfl rfl)

end Sys2Proof.Machine
end

section
/-! SUPPORT. Who writes `s.dev` (42_identity_status.md R173): a device that is present stays through every update of a command
in progress, and of all commands but the macros `READ_IDCODE` alone makes one present. -/

namespace Sys2Proof.Machine

/-! ## A device that is present stays -/

/-- Only the end of a `READ_IDCODE` writes the device, and only where there is none. -/
theorem Update.dev_eq_some {s t : State} {d : DeviceInfo} (h : Update s t) (hd : s.dev = some d) : t.dev = some d := by
  cases h with
  | deviceRead info => simp [hd]
  | shifted reg tx n exit => cases exit <;> simpa using hd
  | _ => simpa using hd

theorem Updates.dev_eq_some {s t : State} {d : DeviceInfo} (h : Updates s t) (hd : s.dev = some d) :
    t.dev = some d := by
  induction h with
  | refl => exact hd
  | tail _ hlast ih => exact hlast.dev_eq_some ih

/-- The end of a command, or its wait, leaves the device as the command did. -/
theorem commit_dev {b : Bridge Flow} {s s' : State} (h : commit b s = .next s') : s'.dev = (endState (b s)).dev := by
  rcases commit_cases b s with ⟨k, d, t, hrun, hc⟩ | ⟨w, t, hrun, hc⟩ | ⟨k, r, t, hrun, hc⟩ | ⟨f, t, -, hc⟩ <;>
    rw [hc] at h <;> cases h <;> rw [hrun] <;> rfl

/-! ## Commands that leave the device alone -/

/-- A command leaves the device as it is, whether it goes on or stops. -/
def KeepsDev {α : Type} (b : Bridge α) : Prop := ∀ s, (endState (b s)).dev = s.dev

section
variable {α β : Type} {x : Bridge α}

theorem KeepsDev.bind {f : α → Bridge β} (hx : KeepsDev x) (hf : ∀ a, KeepsDev (f a)) : KeepsDev (x >>= f) := by
  intro s
  have hs := hx s
  rw [bind_run]
  cases h : x s with
  | ok a t =>
    rw [h] at hs
    exact (hf a t).trans hs
  | error e t =>
    rw [h] at hs
    exact hs

theorem KeepsDev.dev_eq_of_ok {a : α} {s t : State} (hx : KeepsDev x) (h : x s = .ok a t) : t.dev = s.dev := by
  rw [← hx s, h, endState_ok]

theorem keepsDev_pure (a : α) : KeepsDev (pure a : Bridge α) := fun _ => rfl
theorem keepsDev_throw (e : Stop) : KeepsDev (throw e : Bridge α) := fun _ => rfl
theorem keepsDev_done (d : ResultData) : KeepsDev (done d) := fun _ => rfl
theorem keepsDev_get : KeepsDev (get : Bridge State) := fun _ => rfl
theorem keepsDev_modify {g : State → State} (h : ∀ s, (g s).dev = s.dev) : KeepsDev (modify g : Bridge Unit) := h

end

/-! ## Checks and primitives -/

/-- The checks read the state and write nothing (41_spi_bridge.md R154). -/
theorem checks_cases (lenOk : Bool) (s : State) :
    checks lenOk s = .ok () s ∨ ∃ e, checks lenOk s = .error e s := by
  simp only [checks, checkSession, require, checkSticky, bind_run, get_run]
  by_cases hsession : s.session = .closed
  · simp [hsession]
  · cases lenOk <;> by_cases herr : s.err = true <;> simp [hsession, herr]

theorem checks_keepsDev (lenOk : Bool) : KeepsDev (checks lenOk) := by
  intro s
  rcases checks_cases lenOk s with h | ⟨e, h⟩ <;> rw [h] <;> rfl

theorem require_keepsDev (b : Bool) (r : Reason) : KeepsDev (require b r) := by cases b <;> exact fun _ => rfl

theorem tapGoTo_keepsDev (dst : TapState) : KeepsDev (tapGoTo dst) := by
  intro s
  rcases tapGoTo_cases dst s with ⟨-, h⟩ | ⟨-, -, h⟩ | ⟨-, -, -, h⟩ | ⟨-, -, -, h⟩ <;> rw [h] <;> simp

theorem tapShift_keepsDev (tx : List Byte) (n : Nat) (exit : Bool) : KeepsDev (tapShift tx n exit) := by
  intro s
  rcases tapShift_cases tx n exit s with ⟨-, h⟩ | ⟨-, -, h⟩ | ⟨-, -, -, h⟩ | ⟨reg, -, -, -, -, h⟩ |
    ⟨reg, -, -, -, -, h⟩ <;> rw [h]
  case inr.inr.inr.inl => cases exit <;> simp
  all_goals simp

theorem irLoad_keepsDev (code : Byte) (len : Nat) : KeepsDev (irLoad code len) :=
  (tapGoTo_keepsDev _).bind fun _ => (tapShift_keepsDev _ _ _).bind fun _ => keepsDev_modify fun _ => rfl

theorem drRead_keepsDev (bits : Nat) : KeepsDev (drRead bits) :=
  (tapGoTo_keepsDev _).bind fun _ => tapShift_keepsDev _ _ _

/-! ## SPI transactions and flash frames -/

theorem assertFrame_keepsDev (frame : List Byte) : KeepsDev (assertFrame frame) := by
  unfold assertFrame
  split
  · exact keepsDev_throw _
  · exact keepsDev_pure ()

theorem transactSPI_keepsDev (frame : List Byte) : KeepsDev (transactSPI frame) := by
  have hshift : KeepsDev (do
      let raw ← tapShift (revBuf frame) (8 * frame.length) true
      return revBuf raw) := (tapShift_keepsDev _ _ _).bind fun _ => keepsDev_pure _
  refine (assertFrame_keepsDev frame).bind fun _ => KeepsDev.bind (x := tapState) (fun _ => rfl) fun tap => ?_
  split
  · exact (tapGoTo_keepsDev _).bind fun _ => hshift
  · exact hshift

theorem streamSPI_keepsDev (frame : List Byte) : KeepsDev (streamSPI frame) :=
  (assertFrame_keepsDev frame).bind fun _ => (tapGoTo_keepsDev _).bind fun _ => (tapShift_keepsDev _ _ _).bind fun _ =>
    keepsDev_pure _

theorem flashPrologue_keepsDev (k : FlashKind) (lenOk : Bool) : KeepsDev (flashPrologue k lenOk) :=
  (checks_keepsDev _).bind fun _ => keepsDev_get.bind fun _ => (require_keepsDev _ _).bind fun _ =>
    keepsDev_modify fun s => s.flashHazards_dev k

theorem sendFrame_keepsDev (n : FlashName) (operands : List Byte) : KeepsDev (sendFrame n operands) :=
  keepsDev_get.bind fun _ => (transactSPI_keepsDev _).bind fun _ =>
    (keepsDev_modify fun s => s.afterFrame_dev n).bind fun _ => keepsDev_pure _

theorem sendRegisterWrite_keepsDev (n : FlashName) (v : Byte) : KeepsDev (sendRegisterWrite n v) :=
  (keepsDev_modify fun s => s.writeEnableHazard_dev).bind fun _ => (sendFrame_keepsDev _ _).bind fun _ =>
    keepsDev_pure ()

theorem sendHeader_keepsDev (n : FlashName) (a : Addr) : KeepsDev (sendHeader n a) :=
  keepsDev_get.bind fun _ => (streamSPI_keepsDev _).bind fun _ => keepsDev_pure ()

theorem sendPage_keepsDev (a : Addr) (data : List Byte) : KeepsDev (sendPage a data) :=
  (sendHeader_keepsDev _ _).bind fun _ => (transactSPI_keepsDev _).bind fun _ =>
    keepsDev_modify fun s => s.afterFrame_dev .pp

theorem sendRdid_keepsDev : KeepsDev sendRdid :=
  keepsDev_get.bind fun _ => (sendFrame_keepsDev _ _).bind fun _ => keepsDev_pure _

theorem openRead_keepsDev (a : Addr) : KeepsDev (openRead a) :=
  (sendHeader_keepsDev _ _).bind fun _ => keepsDev_modify fun _ => rfl

/-! ## The busy wait -/

theorem waitPoll_keepsDev (polls : Nat) : KeepsDev (waitPoll polls) := by
  intro s
  have hframe := sendFrame_keepsDev .rdsr1 [0x00] s
  unfold waitPoll
  cases h : sendFrame .rdsr1 [0x00] s with
  | error e u =>
    rw [h] at hframe
    exact hframe
  | ok rx u =>
    rw [h] at hframe
    dsimp only
    split <;> exact hframe

theorem afterWait_keepsDev (cmd : WaitCmd) (polls : Nat) : KeepsDev (afterWait cmd polls) := by
  cases cmd with
  | wait => exact keepsDev_done _
  | unprotect => exact (sendFrame_keepsDev _ _).bind fun _ => keepsDev_done _

theorem startWait_keepsDev (cmd : WaitCmd) : KeepsDev (startWait cmd) := by
  refine (keepsDev_modify (g := fun s => { s with rdyCount := 0 }) fun _ => rfl).bind fun _ =>
    (waitPoll_keepsDev 0).bind fun p => ?_
  cases p with
  | satisfied n => exact afterWait_keepsDev cmd n
  | unsatisfied n => exact keepsDev_pure _

/-! ## Commands of one shape -/

/-- A flash command: its prologue, and one operation from whose response it makes its result. -/
theorem flashCommand_keepsDev {α : Type} (k : FlashKind) {x : Bridge α} (hx : KeepsDev x) (d : α → ResultData) :
    KeepsDev (do
      flashPrologue k true
      let rx ← x
      done (d rx)) :=
  (flashPrologue_keepsDev _ _).bind fun _ => hx.bind fun _ => keepsDev_done _

/-- A row of the opcode table: the checks, and one operation from whose response it makes its result. -/
theorem row_keepsDev {α : Type} {x : Bridge α} (hx : KeepsDev x) (d : α → ResultData) :
    KeepsDev (do
      checks true
      let rx ← x
      done (d rx)) :=
  (checks_keepsDev _).bind fun _ => hx.bind fun _ => keepsDev_done _

theorem readRegister_keepsDev (k : FlashKind) (n : FlashName) : KeepsDev (readRegister k n) :=
  flashCommand_keepsDev k (sendFrame_keepsDev n [0x00]) fun rx => .byte (registerByte rx)

theorem writeRegister_keepsDev (n : FlashName) (v : Byte) : KeepsDev (writeRegister n v) :=
  flashCommand_keepsDev .plain (sendRegisterWrite_keepsDev n v) fun _ => .none

theorem eraseFrames_keepsDev (n : FlashName) (operands : List Byte) : KeepsDev (eraseFrames n operands) :=
  (flashPrologue_keepsDev _ _).bind fun _ => (sendFrame_keepsDev _ _).bind fun _ => (sendFrame_keepsDev _ _).bind fun _ =>
    keepsDev_done _

theorem frameRow_keepsDev (n : FlashName) (operands : List Byte) : KeepsDev (frameRow n operands) :=
  row_keepsDev (sendFrame_keepsDev n operands) fun _ => .none

theorem readRow_keepsDev (n : FlashName) : KeepsDev (readRow n) :=
  row_keepsDev (sendFrame_keepsDev n [0x00]) fun rx => .byte (registerByte rx)

theorem writeRow_keepsDev (n : FlashName) (v : Byte) : KeepsDev (writeRow n v) :=
  row_keepsDev (sendRegisterWrite_keepsDev n v) fun _ => .none

theorem cmdOpRead_keepsDev (a : Addr) (count : Nat) : KeepsDev (cmdOpRead a count) := by
  refine keepsDev_get.bind fun _ => (checks_keepsDev _).bind fun _ => (openRead_keepsDev _).bind fun _ => ?_
  split
  · exact keepsDev_done _
  · exact (streamSPI_keepsDev _).bind fun _ => keepsDev_done _

theorem cmdSessionClose_keepsDev : KeepsDev cmdSessionClose := by
  intro s
  by_cases hsession : s.session = .closed
  · rw [cmdSessionClose_of_closed hsession]
    rfl
  · rw [cmdSessionClose_of_open hsession]
    exact s.closePort_dev

/-! ## Commands that need the family -/

/-- A command that needs the family starts with the checks and the family (44_config_sequencer.md R259). -/
theorem exec_eq_commit_cfgFamily {i : Instr} (h : i.needsFamily = true) :
    ∃ f, exec i = commit (checks true >>= fun _ => cfgFamily >>= f) := by
  cases i <;> first | exact ⟨_, rfl⟩ | contradiction

/-- With no device it is refused there, and nothing was written (42_identity_status.md R182). -/
theorem endState_cfgFamily_of_none {s : State} (h : s.dev = none) (f : Family → Bridge Flow) :
    endState ((checks true >>= fun _ => cfgFamily >>= f) s) = s := by
  have hfamily : cfgFamily s = .error (.raise .refused .notIdentified) s := by
    simp only [cfgFamily, bind_run, get_run, h, refuse_run]
  rcases checks_cases true s with hc | ⟨e, hc⟩
  · rw [bind_of_ok hc, bind_of_error hfamily, endState_error]
  · rw [bind_of_error hc, endState_error]

/-! ## Every instruction -/

/-- Every other instruction but `SESSION_OPEN`, `READ_IDCODE`, the macros and the row that is never sent is a command that
leaves the device as it is. -/
theorem exec_eq_commit_keepsDev {i : Instr} (hopen : i.isSessionOpen = false) (hmacro : i.isMacro = false)
    (hread : i ≠ .readIdcode) (hfamily : i.needsFamily = false) (hfast : i ≠ .opFastRead) :
    ∃ b, KeepsDev b ∧ exec i = commit b := by
  cases i with
  | sessionClose => exact ⟨_, cmdSessionClose_keepsDev, rfl⟩
  | spiXfer data =>
    exact ⟨cmdSpiXfer data, keepsDev_get.bind fun _ => (checks_keepsDev _).bind fun _ =>
      (transactSPI_keepsDev _).bind fun _ =>
        (keepsDev_modify (g := fun s => { s with rdOpen := false }) fun _ => rfl).bind fun _ => keepsDev_done _, rfl⟩
  | spiStream data =>
    exact ⟨cmdSpiStream data, keepsDev_get.bind fun _ => (checks_keepsDev _).bind fun _ =>
      (streamSPI_keepsDev _).bind fun _ => keepsDev_done _, rfl⟩
  | spiEnd => exact ⟨cmdSpiEnd, row_keepsDev (tapGoTo_keepsDev _) fun _ => .none, rfl⟩
  | fWren | fWrdi => exact ⟨_, flashCommand_keepsDev .plain (sendFrame_keepsDev _ []) fun _ => .none, rfl⟩
  | fRdsr1 | fRdsr2 | fRdsr3 => exact ⟨_, readRegister_keepsDev _ _, rfl⟩
  | fWrsr1 v | fWrsr2 v | fWrsr3 v => exact ⟨_, writeRegister_keepsDev _ v, rfl⟩
  | fCe | fSe4k a | fBe32k a | fBe64k a => exact ⟨_, eraseFrames_keepsDev _ _, rfl⟩
  | fPp a data =>
    exact ⟨cmdFPp a data, keepsDev_get.bind fun _ => (flashPrologue_keepsDev _ _).bind fun _ =>
      (sendFrame_keepsDev _ _).bind fun _ => (sendPage_keepsDev _ _).bind fun _ => keepsDev_done _, rfl⟩
  | fRdid => exact ⟨cmdFRdid, flashCommand_keepsDev .plain sendRdid_keepsDev .bytes, rfl⟩
  | fRead a => exact ⟨cmdFRead a, flashCommand_keepsDev .plain (openRead_keepsDev a) fun _ => .none, rfl⟩
  | fContRead n =>
    exact ⟨cmdFContRead n, keepsDev_get.bind fun _ => (flashPrologue_keepsDev _ _).bind fun _ =>
      (streamSPI_keepsDev _).bind fun _ => keepsDev_done _, rfl⟩
  | fWait => exact ⟨cmdFWait, (flashPrologue_keepsDev _ _).bind fun _ => startWait_keepsDev _, rfl⟩
  | fUnprotect =>
    exact ⟨cmdFUnprotect, (flashPrologue_keepsDev _ _).bind fun _ => (sendRegisterWrite_keepsDev _ _).bind fun _ =>
      startWait_keepsDev _, rfl⟩
  | fReset =>
    exact ⟨cmdFReset, (flashPrologue_keepsDev _ _).bind fun _ => keepsDev_get.bind fun _ =>
      (transactSPI_keepsDev _).bind fun _ => keepsDev_done _, rfl⟩
  | cBurstData data =>
    exact ⟨cmdCBurstData data, keepsDev_get.bind fun _ => (checks_keepsDev _).bind fun _ => keepsDev_get.bind fun _ =>
      (require_keepsDev _ _).bind fun _ => (tapGoTo_keepsDev _).bind fun _ => (tapShift_keepsDev _ _ _).bind fun _ =>
        keepsDev_done _, rfl⟩
  | opWren | opWrdi | opCe | opSe4k a | opBe32k a | opBe64k a => exact ⟨_, frameRow_keepsDev _ _, rfl⟩
  | opRdsr1 | opRdsr2 | opRdsr3 => exact ⟨_, readRow_keepsDev _, rfl⟩
  | opWrsr1 v | opWrsr2 v | opWrsr3 v => exact ⟨_, writeRow_keepsDev _ v, rfl⟩
  | opPp a data =>
    exact ⟨cmdOpPp a data, keepsDev_get.bind fun _ => (checks_keepsDev _).bind fun _ => (sendPage_keepsDev _ _).bind fun _ =>
      keepsDev_done _, rfl⟩
  | opRdid => exact ⟨cmdOpRdid, row_keepsDev sendRdid_keepsDev .bytes, rfl⟩
  | opRead a count => exact ⟨_, cmdOpRead_keepsDev a count, rfl⟩
  | irIdcode =>
    exact ⟨cmdIrIdcode, (checks_keepsDev _).bind fun _ => keepsDev_get.bind fun _ => (irLoad_keepsDev _ _).bind fun _ =>
      keepsDev_done _, rfl⟩
  | _ => contradiction

/-- `SESSION_OPEN` makes no device present: it clears it, or is refused (70_reset_and_hazards.md R371). -/
theorem execSessionOpen_dev_eq_none {sel : List Byte} {s s' : State} (h : execSessionOpen sel s = .next s')
    (hd : s.dev = none) : s'.dev = none := by
  cases h
  split
  · cases hanswer : s.nextAnswer.ok with
    | true => rw [openSession_of_ok sel hanswer]; rfl
    | false => rw [openSession_of_failed sel hanswer]; rfl
  · exact hd

theorem exec_dev_eq_some {i : Instr} {s s' : State} {d : DeviceInfo} (h : exec i s = .next s')
    (hopen : i.isSessionOpen = false) (hd : s.dev = some d) : s'.dev = some d := by
  have hfast : i ≠ .opFastRead := fun hi => by rw [hi] at h; cases h
  cases hclose : i.isSessionClose with
  | true =>
    cases i <;> cases hclose
    rw [commit_dev h, cmdSessionClose_keepsDev s, hd]
  | false =>
    obtain ⟨b, hb, heq⟩ := exec_eq_commit hopen hclose hfast
    rw [heq] at h
    rw [commit_dev h, (hb s).dev_eq_some hd]

theorem exec_dev_eq_none {i : Instr} {s s' : State} (h : exec i s = .next s') (hread : i ≠ .readIdcode)
    (hmacro : i.isMacro = false) (hd : s.dev = none) : s'.dev = none := by
  have hfast : i ≠ .opFastRead := fun hi => by rw [hi] at h; cases h
  cases hopen : i.isSessionOpen with
  | true =>
    cases i <;> cases hopen
    exact execSessionOpen_dev_eq_none h hd
  | false =>
    cases hfamily : i.needsFamily with
    | true =>
      obtain ⟨f, heq⟩ := exec_eq_commit_cfgFamily hfamily
      rw [heq] at h
      rw [commit_dev h, endState_cfgFamily_of_none hd, hd]
    | false =>
      obtain ⟨b, hb, heq⟩ := exec_eq_commit_keepsDev hopen hmacro hread hfamily hfast
      rw [heq] at h
      rw [commit_dev h, hb s, hd]

/-! ## A `READ_IDCODE` that completes -/

/-- It returns the device it found, which is the session's if there was none. -/
theorem cmdReadIdcode_eq_ok {s t : State} {r : Flow} (h : cmdReadIdcode s = .ok r t) :
    ∃ info, r = .ended .ok (.device info) ∧ t.dev = (s.dev <|> some info) := by
  unfold cmdReadIdcode at h
  obtain ⟨_, s₁, hchecks, h⟩ := bind_eq_ok.mp h
  obtain ⟨_, s₂, hget, h⟩ := bind_eq_ok.mp h
  obtain ⟨_, s₃, hload, h⟩ := bind_eq_ok.mp h
  obtain ⟨rx, s₄, hread, h⟩ := bind_eq_ok.mp h
  cases h
  refine ⟨_, rfl, ?_⟩
  have hdev : s₄.dev = s.dev := by
    rw [(drRead_keepsDev _).dev_eq_of_ok hread, (irLoad_keepsDev _ _).dev_eq_of_ok hload,
      keepsDev_get.dev_eq_of_ok hget, (checks_keepsDev _).dev_eq_of_ok hchecks]
  rw [← hdev]

theorem orElse_some_eq_getD {α : Type} (d : Option α) (x : α) : (d <|> some x) = some (d.getD x) := by
  rw [Option.orElse_eq_orElse, Option.orElse_eq_or, Option.or_some]

theorem readIdcode_dev_of_result {s s' : State} {d : DeviceInfo} (h : exec .readIdcode s = .next s')
    (hresult : s'.result = some (okResult (.device d))) : s'.dev = some (s.dev.getD d) := by
  rcases commit_cases cmdReadIdcode s with ⟨k, x, t, hrun, hc⟩ | ⟨w, t, hrun, -⟩ | ⟨k, r, t, -, hc⟩ | ⟨f, t, -, hc⟩
  · cases hc.symm.trans h
    obtain ⟨info, hflow, hdev⟩ := cmdReadIdcode_eq_ok hrun
    cases hflow
    cases hresult
    rw [State.answer_dev, hdev, orElse_some_eq_getD]
  · obtain ⟨info, hflow, -⟩ := cmdReadIdcode_eq_ok hrun
    cases hflow
  · cases hc.symm.trans h
    cases hresult
  · cases hc.symm.trans h

/-- Settles O20: a present device stays because every update keeps it; the other commands never write it; and `READ_IDCODE`
writes its fresh device beside the one that is there. -/
theorem deviceIsWrittenOnce : Obligations.DeviceIsWrittenOnce := by
  refine ⟨fun _ _ _ _ => exec_dev_eq_some, fun _ _ _ h hread hmacro => exec_dev_eq_none h hread hmacro,
    fun s hs hc hok => ⟨_, commit_ended (cmdReadIdcode_ok hs hc hok), rfl, orElse_some_eq_getD _ _, rfl⟩,
    fun _ _ _ => readIdcode_dev_of_result, fun t s s' d h hd => ?_⟩
  rw [commit_dev h]
  exact (resumeTask_updates t _).dev_eq_some hd

end Sys2Proof.Machine
end

section
/-! SUPPORT. The flash commands that do not wait (43_flash_commands.md R201 to R217, R221), where every answer is Ok: each is
its prologue and one transaction or two, over the state `m` after the marks of the prologue. -/

namespace Sys2Proof.Machine

section
variable {s m : State}

/-- A command of one frame: the marks of its prologue, the frame, and a result made of the response (R201 to R205). -/
theorem flashFrame_ok {k : FlashKind} (hs : s.Ready) (hk : k ≠ .contRead) (hm : m = s.flashHazards k) (hok : m.OkFor 2)
    (n : FlashName) {operands frame : List Byte} (hframe : m.cfg.flashOps.get n :: operands = frame)
    (d : List Byte → ResultData) :
    (do
      flashPrologue k true
      let rx ← sendFrame n operands
      done (d rx)) s = .ok (.ended .ok (d (m.spiRx [] m.tap frame)))
        ((m.afterFrame n).saw (m.framed [] m.tap frame true) (exitState m.cfg .dr) false false) := by
  have herr : m.err = false := by simp [hm, hs.2]
  subst hframe
  refine bind_trans (flashPrologue_ok k hs (.inl hk)) ?_
  rw [← hm, ← afterFrame_saw]
  exact bind_trans (sendFrame_ok n operands herr hok (answersOf_goTos_succ _ _)) rfl

theorem cmdFReset_ok (hs : s.Ready) (hm : m = s.flashHazards .plain) (hok : m.OkFor 2)
    (hframe : m.cfg.flashResetFrame ≠ []) :
    cmdFReset s = .ok (.ended .ok .none)
      (m.saw (m.framed [] m.tap m.cfg.flashResetFrame true) (exitState m.cfg .dr) false false) := by
  have herr : m.err = false := by simp [hm, hs.2]
  refine bind_trans (flashPrologue_ok .plain hs (.inl (by decide))) ?_
  rw [← hm]
  exact bind_trans (get_run m) (bind_trans (transactSPI_ok _ herr hok (answersOf_goTos_succ _ _) hframe) rfl)

/-- The JEDEC ID is response bytes 1 on (R215). -/
theorem cmdFRdid_ok (hs : s.Ready) (hm : m = s.flashHazards .plain) (hok : m.OkFor 2) {frame : List Byte}
    (hframe : m.cfg.flashOps.rdid :: List.replicate m.cfg.jedecIdLen 0 = frame) :
    cmdFRdid s = .ok (.ended .ok (.bytes ((m.spiRx [] m.tap frame).drop 1)))
      (m.saw (m.framed [] m.tap frame true) (exitState m.cfg .dr) false false) := by
  have herr : m.err = false := by simp [hm, hs.2]
  subst hframe
  refine bind_trans (flashPrologue_ok .plain hs (.inl (by decide))) ?_
  rw [← hm]
  have hsend := sendFrame_ok .rdid (List.replicate m.cfg.jedecIdLen 0) herr hok (answersOf_goTos_succ _ _)
  exact bind_trans (bind_trans (get_run m) (bind_trans hsend rfl)) rfl

/-- A status-register write: the mark of a missing write-enable comes after those of the prologue (R206, R223). -/
theorem writeRegister_ok (hs : s.Ready) (hm : m = (s.flashHazards .plain).writeEnableHazard) (hok : m.OkFor 2)
    (n : FlashName) (v : Byte) :
    writeRegister n v s = .ok (.ended .ok .none)
      ((m.afterFrame n).saw (m.framed [] m.tap [m.cfg.flashOps.get n, v] true) (exitState m.cfg .dr) false false) := by
  have herr : m.err = false := by simp [hm, hs.2]
  exact bind_trans (flashPrologue_ok .plain hs (.inl (by decide)))
    (bind_trans (sendRegisterWrite_ok n v hm herr hok (answersOf_goTos_succ _ _)) rfl)

end

/-- Settles O37: each command is its prologue and one transaction. -/
theorem singleFrameCommands : Obligations.SingleFrameCommands := fun _ hs hok =>
  ⟨commit_ended (flashFrame_ok hs (by decide) rfl hok .wren rfl fun _ => .none),
    commit_ended (flashFrame_ok hs (by decide) rfl hok .wrdi rfl fun _ => .none),
    fun hframe => commit_ended (cmdFReset_ok hs rfl hok hframe)⟩

/-- Settles O38: each command is its prologue and one transaction, and its result is read off the response. -/
theorem flashRegisterReads : Obligations.FlashRegisterReads := by
  intro s hs sent byte1 ops idFrame
  have hops : ∀ k, (s.flashHazards k).cfg.flashOps = ops := fun k => by rw [State.flashHazards_cfg]
  have hread := fun k (hk : k ≠ .contRead) (hok : (s.flashHazards k).OkFor 2) n =>
    commit_ended (flashFrame_ok hs hk rfl hok n (operands := [0])
      (congrArg (fun o : FlashOps => [o.get n, 0]) (hops k)) fun rx => .byte (registerByte rx))
  refine ⟨fun hok => hread .poll (by decide) hok .rdsr1, fun hok => ⟨hread .plain (by decide) hok .rdsr2,
    hread .plain (by decide) hok .rdsr3, commit_ended (cmdFRdid_ok hs rfl hok ?_)⟩⟩
  rw [State.flashHazards_cfg]

/-- Settles O39: each command is its prologue, the mark of a missing write-enable, and one transaction. -/
theorem statusRegisterWrites : Obligations.StatusRegisterWrites := by
  intro s v hs m hok after
  have hwrite := fun n => commit_ended (writeRegister_ok hs (m := m) rfl hok n v)
  exact ⟨hwrite .wrsr1, hwrite .wrsr2, hwrite .wrsr3⟩

/-- Settles O40: each command is its prologue, a write-enable frame, and its erase frame. -/
theorem eraseCommands : Obligations.EraseCommands := by
  intro s a hs m hok enable after
  have herase := fun n operands => commit_ended (eraseFrames_ok hs (m := m) rfl hok n operands)
  exact ⟨herase .ce [], herase .se4k (be24 a), herase .be32k (be24 a), herase .be64k (be24 a)⟩

/-- Settles O41: the prologue, a write-enable frame, and a held header with its data. -/
theorem pageProgramCommand : Obligations.PageProgramCommand := fun _ _ _ hs hlen hok =>
  commit_ended (cmdFPp_ok hs hlen rfl hok)

/-- Settles O42: the marks leave an open read open, so that `F_CONT_READ` finds it as it was. -/
theorem streamedReadCommands : Obligations.StreamedReadCommands := by
  refine fun s hs => ⟨fun a hok => commit_ended (cmdFRead_ok a hs rfl hok), ?_⟩
  intro n hopen hlen m hok fill
  have hrun := commit_ended (cmdFContRead_ok hs hopen hlen (m := m) rfl hok)
  rw [State.flashHazards_rdOpen, hopen] at hrun
  exact hrun

end Sys2Proof.Machine
end

section
/-! SUPPORT. The busy wait (43_flash_commands.md R218, R220; 10_state.md R52), where every answer is Ok: what one poll leaves,
how `F_WAIT` and `F_UNPROTECT` come to their first poll, and what a later poll makes of the command in progress. -/

namespace Sys2Proof.Machine

/-! ## One poll -/

section
variable {s : State} {poll : List Byte}

/-- The state after a frame was exchanged as a full transaction (41_spi_bridge.md R150). -/
def State.exchanged (s : State) (frame : List Byte) : State :=
  s.saw (s.framed [] s.tap frame true) (exitState s.cfg .dr) false false

/-- The debounce counter after a poll (R218): a busy reading sets it to 0, a ready one adds 1. -/
def State.countAfterPoll (s : State) (poll : List Byte) : Nat :=
  if ((s.spiRx [] s.tap poll).getD 1 0).getLsbD s.cfg.busyBit then 0 else s.rdyCount + 1

/-- The state after a poll that does not end the wait: the new count, and the delay to the next poll. -/
def State.pollAgain (s : State) (poll : List Byte) : State :=
  { s.exchanged poll with rdyCount := s.countAfterPoll poll }.emit (.delay s.cfg.pollDelay)

/-- The state after the poll that ends the wait. -/
def State.pollReady (s : State) (poll : List Byte) : State :=
  { s.exchanged poll with rdyCount := 0, mustPoll := false }

theorem debounce_not (count : Nat) (busy : Bool) : debounce count (!busy) = if busy then 0 else count + 1 := by
  cases busy <;> rfl

/-- The frame of a poll leaves the ghost fields alone (R223). -/
theorem sendPoll_ok (hpoll : poll = [s.cfg.flashOps.rdsr1, 0]) (herr : s.err = false) (hok : s.OkFor 2) :
    sendFrame .rdsr1 [0x00] s = .ok (s.spiRx [] s.tap poll) (s.exchanged poll) := by
  subst hpoll
  exact sendFrame_ok .rdsr1 [0x00] herr hok (answersOf_goTos_succ _ _)

theorem waitRound_again (hpoll : poll = [s.cfg.flashOps.rdsr1, 0]) (herr : s.err = false) (hok : s.OkFor 2)
    (hcount : s.countAfterPoll poll ≠ s.cfg.readyDebounce) (cmd : WaitCmd) (polls : Nat) :
    waitRound cmd polls s = .ok (.waiting ⟨polls + 1, cmd, none⟩) (s.pollAgain poll) := by
  have hdebounce := debounce_not s.rdyCount ((registerByte (s.spiRx [] s.tap poll)).getLsbD s.cfg.busyBit)
  have hround := waitPoll_unsatisfied polls (sendPoll_ok hpoll herr hok) (hdebounce ▸ hcount)
  rw [waitRound_unsatisfied cmd hround]
  exact congrArg (fun n => EStateM.Result.ok _ (({ s.exchanged poll with rdyCount := n } : State).emit _)) hdebounce

theorem waitRound_ready (hpoll : poll = [s.cfg.flashOps.rdsr1, 0]) (herr : s.err = false) (hok : s.OkFor 2)
    (hcount : s.countAfterPoll poll = s.cfg.readyDebounce) (cmd : WaitCmd) (polls : Nat) :
    waitRound cmd polls s = afterWait cmd (polls + 1) (s.pollReady poll) := by
  have hdebounce := debounce_not s.rdyCount ((registerByte (s.spiRx [] s.tap poll)).getLsbD s.cfg.busyBit)
  exact waitRound_satisfied cmd (waitPoll_satisfied polls (sendPoll_ok hpoll herr hok) (hdebounce.trans hcount))

/-- A wait starts with the counter 0 and no poll made (R218). -/
theorem startWait_run (s : State) (cmd : WaitCmd) : startWait cmd s = waitRound cmd 0 { s with rdyCount := 0 } :=
  bind_of_ok (modify_run s _) _

end

/-! ## A command in progress goes on -/

section
variable {s u : State} {cmd : WaitCmd} {polls : Nat}

/-- What a command comes to depends on its run alone. -/
theorem commit_congr {b b' : Bridge Flow} {s s' : State} (h : b s = b' s') : commit b s = commit b' s' := by
  simp only [commit, h]

theorem idleOnStop_of_ok {b : Bridge Flow} {f : Flow} (h : b s = .ok f u) : idleOnStop b s = .ok f u := by
  simp only [idleOnStop, h]

/-- The wait goes on, by itself and inside an expansion. -/
theorem resume_of_waiting {n : Nat} (h : waitRound cmd polls { s with task := none } = .ok (.waiting ⟨n, cmd, none⟩) u)
    (outer : Option Expansion) : resume ⟨polls, cmd, outer⟩ s = .next { u with task := some ⟨n, cmd, outer⟩ } := by
  cases outer with
  | none => exact commit_waiting h
  | some e => exact commit_waiting (idleOnStop_of_ok (bind_trans h rfl))

/-- The wait ends, and its command with it. -/
theorem resume_of_ended {d : ResultData} (h : waitRound cmd polls { s with task := none } = .ok (.ended .ok d) u) :
    resume ⟨polls, cmd, none⟩ s = .next (u.answer (okResult d)) := commit_ended h

/-- The wait ends, and the expansion around it goes on with its rest and with what it keeps of the data (45_orchestrator.md
R280). -/
theorem resume_of_ended_inside {d : ResultData}
    (h : waitRound cmd polls { s with task := none } = .ok (.ended .ok d) u) (e : Expansion) :
    resume ⟨polls, cmd, some e⟩ s =
      commit (idleOnStop (runPlan e.kind e.rest (keepData e.keep d e.notes))) (u.setResult (okResult d)) := by
  refine commit_congr (b := idleOnStop (waitRound cmd polls >>= continueMacro e)) ?_
  simp only [idleOnStop, bind_of_ok h]
  rfl

end

/-! ## `F_WAIT` -/

theorem cmdFWait_run {s m : State} (hs : s.Ready) (hm : m = s.flashHazards .poll) :
    cmdFWait s = waitRound .wait 0 { m with rdyCount := 0 } := by
  refine bind_trans (flashPrologue_ok .poll hs (.inl (by decide))) ?_
  rw [← hm, startWait_run]

/-- Settles O43: the prologue of `F_WAIT` leads to its first poll, and a poll is one round, from where the command, or
the expansion around it, goes on. -/
theorem busyWait : Obligations.BusyWait := by
  intro s hs poll next polled waits ends
  refine ⟨fun htask => ?_, fun polls hok => ⟨fun cmd outer hcount => ?_, fun hcount => ?_⟩⟩
  · intro m hok
    have hpoll : poll = [m.cfg.flashOps.rdsr1, 0] := by simp only [poll, m, State.flashHazards_cfg]
    have herr : m.err = false := by simp only [m, State.flashHazards_err, hs.2]
    have hmtask : m.task = none := by simp only [m, State.flashHazards_task, htask]
    have hrun := cmdFWait_run hs (m := m) rfl
    by_cases hcount : next m 0 = m.cfg.readyDebounce
    · rw [if_pos hcount]
      have hround := waitRound_ready (s := { m with rdyCount := 0 }) hpoll herr hok hcount .wait 0
      refine commit_of_ok (hrun.trans hround) ?_
      exact congrArg (fun task => State.answer { polled m with rdyCount := 0, mustPoll := false, task := task } _) hmtask
    · rw [if_neg hcount]
      exact commit_waiting
        (hrun.trans (waitRound_again (s := { m with rdyCount := 0 }) hpoll herr hok hcount .wait 0))
  · exact resume_of_waiting (waitRound_again (s := { s with task := none }) rfl hs.2 hok hcount cmd polls) outer
  · have hround := waitRound_ready (s := { s with task := none }) rfl hs.2 hok hcount .wait polls
    exact ⟨resume_of_ended hround, resume_of_ended_inside hround⟩

/-! ## `F_UNPROTECT` -/

/-- What `F_UNPROTECT` tells of the register it read back (R220). -/
def unprotectData (rx : List Byte) : ResultData := .unprotect ⟨registerByte rx != 0, registerByte rx⟩

section
variable {s : State} {e : List Event} {t : TapState} {rd bo : Bool} {n : Nat} {poll : List Byte}

theorem exchanged_saw (ht : t = tapAfter s.cfg s.tap e) (frame : List Byte) :
    (s.saw e t rd bo).exchanged frame = s.saw (s.framed e t frame true) (exitState s.cfg .dr) false false := by
  rw [State.exchanged, State.saw_tap, saw_saw _ _ _ _ _ _ _ _ _ ht, framed_saw ht, State.saw_cfg]

theorem countAfterPoll_saw (ht : t = tapAfter s.cfg s.tap e) :
    (s.saw e t rd bo).countAfterPoll poll =
      if ((s.spiRx e t poll).getD 1 0).getLsbD s.cfg.busyBit then 0 else s.rdyCount + 1 := by
  rw [State.countAfterPoll, State.saw_tap, spiRx_saw ht, State.saw_cfg, State.saw_rdyCount]

/-- A delay is an event the target does not see (10_state.md R48). -/
theorem emit_delay_saw (d : Nat) :
    (s.saw e t rd bo).emit (.delay d) = s.saw (e ++ [.delay d]) t rd bo := by
  simp [State.saw, State.emit, answersOf, replay_append, Target.replay]

/-- Once the wait is over the register is read back (R220). -/
theorem afterWait_unprotect_saw (hpoll : poll = [s.cfg.flashOps.rdsr1, 0]) (herr : s.err = false) (hok : s.OkFor n)
    (hn : answersOf e + 2 ≤ n) (ht : t = tapAfter s.cfg s.tap e) (polls : Nat) :
    afterWait .unprotect polls (s.saw e t rd bo) = .ok (.ended .ok (unprotectData (s.spiRx e t poll)))
      (s.saw (s.framed e t poll true) (exitState s.cfg .dr) false false) := by
  subst hpoll
  have hgo := answersOf_goTos t .shiftDr
  exact bind_trans (sendFrame_saw .rdsr1 [0x00] herr hok (by rw [answersOf_append]; omega) ht) rfl

end

/-- The ghost fields of a register write, and the counter at the start of a wait (R218, R223). -/
def State.unprotecting (m : State) : State := { m with weIssued := false, mustPoll := true, rdyCount := 0 }

/-- `F_UNPROTECT` up to its first poll: the marks, and the write of status register 1 with its ghost fields (R220, R223). -/
theorem cmdFUnprotect_run {s m : State} (hs : s.Ready) (hm : m = (s.flashHazards .plain).writeEnableHazard)
    (hok : m.OkFor 2) :
    cmdFUnprotect s = waitRound .unprotect 0
      (m.unprotecting.saw (m.framed [] m.tap [m.cfg.flashOps.wrsr1, 0] true) (exitState m.cfg .dr) false false) := by
  have herr : m.err = false := by simp [hm, hs.2]
  exact bind_trans (flashPrologue_ok .plain hs (.inl (by decide)))
    (bind_trans (sendRegisterWrite_ok .wrsr1 0x00 hm herr hok (answersOf_goTos_succ _ _)) (startWait_run _ _))

/-- Settles O44: the register write leads to the first poll, and the poll that ends the wait to the read-back. -/
theorem unprotectCommand : Obligations.UnprotectCommand := by
  intro s hs poll back told
  refine ⟨fun htask => ?_, fun polls hok hdebounce hready => ?_⟩
  · intro m hok write evs next
    have hpoll : poll = [m.cfg.flashOps.rdsr1, 0] := by
      simp only [poll, m, State.writeEnableHazard_cfg, State.flashHazards_cfg]
    have herr : m.err = false := by simp only [m, State.writeEnableHazard_err, State.flashHazards_err, hs.2]
    have hwrite : exitState m.cfg .dr = tapAfter m.cfg m.tap write := (tapAfter_exchanged _ rfl).symm
    have hevs : exitState m.cfg .dr = tapAfter m.cfg m.tap evs := (tapAfter_exchanged _ hwrite).symm
    have hanswers : answersOf write ≤ 2 := answersOf_framed m [] m.tap _ true
    have hanswers' : answersOf evs ≤ answersOf write + 2 := answersOf_framed m write _ poll true
    have hrun := cmdFUnprotect_run hs (m := m) rfl (okFor_mono hok (by decide))
    have hokPoll : (m.unprotecting.saw write (exitState m.cfg .dr) false false).OkFor 2 :=
      okFor_saw (s := m.unprotecting) hok (by omega)
    have hcount : (m.unprotecting.saw write (exitState m.cfg .dr) false false).countAfterPoll poll = next :=
      countAfterPoll_saw (s := m.unprotecting) hwrite
    have hexchanged : (m.unprotecting.saw write (exitState m.cfg .dr) false false).exchanged poll =
        m.unprotecting.saw evs (exitState m.cfg .dr) false false := exchanged_saw (s := m.unprotecting) hwrite poll
    by_cases hnext : next = m.cfg.readyDebounce
    · rw [if_pos hnext]
      have hround := waitRound_ready (s := m.unprotecting.saw write (exitState m.cfg .dr) false false) hpoll herr hokPoll
        (hcount.trans hnext) .unprotect 0
      rw [State.pollReady, hexchanged] at hround
      refine commit_ended ((hrun.trans hround).trans ?_)
      exact afterWait_unprotect_saw (s := { m with weIssued := false, mustPoll := false, rdyCount := 0 }) hpoll herr hok
        (by omega) hevs 1
    · rw [if_neg hnext]
      have hround := waitRound_again (s := m.unprotecting.saw write (exitState m.cfg .dr) false false) hpoll herr hokPoll
        (fun h => hnext (hcount.symm.trans h)) .unprotect 0
      rw [State.pollAgain, hcount, hexchanged] at hround
      refine commit_of_waiting (hrun.trans hround) ?_
      exact congrArg (fun u : State => { u with task := some ⟨1, .unprotect, none⟩ }) (emit_delay_saw
        (s := { m with weIssued := false, mustPoll := true, rdyCount := next }) m.cfg.pollDelay)
  · intro first ended
    have hcount : s.countAfterPoll poll = s.cfg.readyDebounce := by
      rw [State.countAfterPoll, hready, ← hdebounce]
      rfl
    have hfirst : exitState s.cfg .dr = tapAfter s.cfg s.tap first := (tapAfter_exchanged _ rfl).symm
    have hanswers : answersOf first ≤ 2 := answersOf_framed s [] s.tap poll true
    have hround := (waitRound_ready (s := { s with task := none }) rfl hs.2 (okFor_mono hok (by decide)) hcount .unprotect
      polls).trans (afterWait_unprotect_saw (s := { s with rdyCount := 0, mustPoll := false, task := none }) rfl hs.2 hok
        (by omega) hfirst (polls + 1))
    exact ⟨resume_of_ended hround, resume_of_ended_inside hround⟩

end Sys2Proof.Machine
end

section
/-! SUPPORT. How long a wait lasts (43_flash_commands.md R218, R219): on a reference target each poll of a busy flash takes one
of its busy polls away, and then `READY_DEBOUNCE` ready ones end the wait; while every poll reads busy, the wait goes on. -/

namespace Sys2Proof.Machine

/-! ## Steps of a wait -/

theorem one_le_readyDebounce {c : Cfg} (hc : c.Wf) : 1 ≤ c.readyDebounce := by
  obtain ⟨⟨-, -, -, -, -, -, -, -, -, -, -, -, -, hpos, -⟩, -⟩ := hc
  exact hpos

theorem untilIdle_of_task {s : State} {w : Task} (h : s.task = some w) (n : Nat) :
    untilIdle (n + 1) (.next s) = untilIdle n (step s) := by
  simp [untilIdle, h]

/-- A poll that does not end the wait is one step, whichever command waits. -/
theorem step_pollAgain {s : State} {w : Task} {poll : List Byte} (htask : s.task = some w) (hs : s.Ready)
    (hpoll : poll = [s.cfg.flashOps.rdsr1, 0]) (hok : s.OkFor 2) (hcount : s.countAfterPoll poll ≠ s.cfg.readyDebounce) :
    step s = .next { s.pollAgain poll with task := some { w with polls := w.polls + 1 } } := by
  obtain ⟨polls, cmd, outer⟩ := w
  rw [step_of_task htask]
  exact resume_of_waiting (waitRound_again (s := { s with task := none }) hpoll hs.2 hok hcount cmd polls) outer

/-- The poll that ends an `F_WAIT` is its last step. -/
theorem step_pollReady {s : State} {polls : Nat} {poll : List Byte} (htask : s.task = some ⟨polls, .wait, none⟩)
    (hs : s.Ready) (hpoll : poll = [s.cfg.flashOps.rdsr1, 0]) (hok : s.OkFor 2)
    (hcount : s.countAfterPoll poll = s.cfg.readyDebounce) :
    step s = .next (State.answer { s.pollReady poll with task := none } (okResult (.polls (polls + 1)))) := by
  rw [step_of_task htask]
  exact resume_of_ended (waitRound_ready (s := { s with task := none }) hpoll hs.2 hok hcount .wait polls)

/-- Where it raises no mark, `F_WAIT` is the step of a wait with no poll made. -/
theorem exec_fWait_eq_step {s : State} (hs : s.Ready) (htask : s.task = none) (hmark : s = s.flashHazards .poll) :
    exec .fWait s = step { s with rdyCount := 0, task := some ⟨0, .wait, none⟩ } := by
  rw [step_of_task rfl]
  refine commit_congr (b := cmdFWait) ((cmdFWait_run hs hmark).trans ?_)
  exact congrArg (fun task => waitRound .wait 0 { s with rdyCount := 0, task := task }) htask

/-! ## The status register of a reference target -/

/-- The flash answers a status read whether it is busy or not (20_memory.md R84). -/
theorem flashResponse_rdsr1 (c : Cfg) (t : Target) (args : List Byte) (j : Nat) :
    t.flashResponse c c.flashOps.rdsr1 args j = some t.sr1Read := by
  unfold Target.flashResponse
  split <;> simp

/-- WIP is bit 0 of what it answers (R84). -/
theorem getLsbD_sr1Read (t : Target) : t.sr1Read.getLsbD 0 = decide (t.busyPolls ≠ 0) := by
  unfold Target.sr1Read
  split <;> simp_all

/-- The target after a status read: a busy flash has one busy poll less (R84). -/
def Target.afterPoll (t : Target) : Target := { t with busyPolls := t.busyPolls - 1, frame := [] }

theorem flashEffect_rdsr1 {c : Cfg} (hc : c.WfCodes) (t : Target) (args : List Byte) :
    t.flashEffect c c.flashOps.rdsr1 args = { t with busyPolls := t.busyPolls - 1 } := by
  by_cases hbusy : t.busyPolls = 0
  · have hnone : t.flashEffect c c.flashOps.rdsr1 args = t := flashEffect_get hc hbusy .rdsr1 args
    rw [hnone, hbusy, Nat.zero_sub, ← hbusy]
  · simp [Target.flashEffect, Nat.pos_of_ne_zero hbusy]

section
variable {s : State} {t : Target}

theorem replay_poll (hc : s.cfg.WfCodes) (hmode : t.mode = .passthrough) (hout : s.tap ≠ .shiftDr) :
    t.replay s.cfg s.tap (s.framed [] s.tap [s.cfg.flashOps.rdsr1, 0] true) = t.afterPoll := by
  rw [replay_framed (e := []) (src := s.tap) rfl, if_neg hout]
  simp [Target.replay, Target.onGoTo, hout, Target.onShift, Target.leaveDr, hmode, flashEffect_rdsr1 hc,
    Target.afterPoll]

/-- Response byte 1 of a poll is status register 1 (R84, R218). -/
theorem spiRx_poll (htarget : s.target = some t) (hmode : t.mode = .passthrough) (hout : s.tap ≠ .shiftDr) :
    (s.spiRx [] s.tap [s.cfg.flashOps.rdsr1, 0]).getD 1 0 = t.sr1Read := by
  have hreplay : t.replay s.cfg s.tap (goTos s.tap .shiftDr) = { t with frame := [] } := by
    simp [goTos, hout, Target.replay, Target.onGoTo]
  have hresponse : ({ t with frame := [] } : Target).response s.cfg (revBuf [s.cfg.flashOps.rdsr1, 0]) 1 =
      some (rev8 t.sr1Read) := by
    simp only [Target.response, hmode, revBuf_revBuf, Nat.one_ne_zero, if_false, flashResponse_rdsr1]
    rfl
  rw [List.getD_eq_getElem?_getD, State.spiRx, List.nil_append, getElem?_revBuf, State.rxAt, htarget]
  simp only [hreplay, getElem?_received, List.nil_append, List.length_nil, Nat.zero_add, hresponse, Option.getD_some]
  rw [List.getElem?_eq_getElem (by simp)]
  simp

theorem countAfterPoll_onTarget (hbit : s.cfg.busyBit = 0) (htarget : s.target = some t) (hmode : t.mode = .passthrough)
    (hout : s.tap ≠ .shiftDr) :
    s.countAfterPoll [s.cfg.flashOps.rdsr1, 0] = if t.busyPolls = 0 then s.rdyCount + 1 else 0 := by
  rw [State.countAfterPoll, spiRx_poll htarget hmode hout, hbit, getLsbD_sr1Read]
  split <;> simp_all

end

/-! ## `F_WAIT` on a reference target -/

/-- `F_WAIT` between two polls on a reference target in passthrough: the run is hazard-free, no DR stay is in progress, and
the debounce counter has not reached `READY_DEBOUNCE` (10_state.md R52). -/
structure WaitsOnFlash (s : State) (t : Target) (polls : Nat) : Prop where
  ready : s.Ready
  codes : s.cfg.WfCodes
  bit : s.cfg.busyBit = 0
  free : s.HazardFree
  target : s.target = some t
  mode : t.mode = .passthrough
  outside : s.tap ≠ .shiftDr
  count : s.rdyCount < s.cfg.readyDebounce
  task : s.task = some ⟨polls, .wait, none⟩

/-- The polls a wait has still to make: the busy ones and `READY_DEBOUNCE` ready ones, of which some are made (R218). -/
def pollsLeft (s : State) (t : Target) : Nat :=
  if t.busyPolls = 0 then s.cfg.readyDebounce - s.rdyCount else t.busyPolls + s.cfg.readyDebounce

/-- `F_WAIT` is over after the given number of polls: it has answered it, no write is pending, the run is hazard-free, and the
flash is ready and its bytes as they were. -/
structure WaitIsOver (s : State) (t : Target) (polls : Nat) (u : State) : Prop where
  task : u.task = none
  mustPoll : u.mustPoll = false
  free : u.HazardFree
  results : u.results = s.results ++ [okResult (.polls polls)]
  target : ∃ t', u.target = some t' ∧ t'.busyPolls = 0 ∧ t'.mem = t.mem

section
variable {s : State} {t : Target} {polls : Nat}

theorem WaitsOnFlash.step_again (h : WaitsOnFlash s t polls) (hmore : pollsLeft s t ≠ 1) :
    ∃ u, step s = .next u ∧ WaitsOnFlash u t.afterPoll (polls + 1) ∧ u.results = s.results ∧
      pollsLeft u t.afterPoll + 1 = pollsLeft s t := by
  have hafter := countAfterPoll_onTarget h.bit h.target h.mode h.outside
  have hcount := h.count
  have hless : s.countAfterPoll [s.cfg.flashOps.rdsr1, 0] < s.cfg.readyDebounce := by
    rw [hafter]
    rw [pollsLeft] at hmore
    split at hmore <;> split <;> omega
  refine ⟨_, step_pollAgain h.task h.ready rfl (okFor_of_target h.target 2) (Nat.ne_of_lt hless), ?_, rfl, ?_⟩
  · have htarget : (s.target.map fun t => t.replay s.cfg s.tap (s.framed [] s.tap [s.cfg.flashOps.rdsr1, 0] true)) =
        some t.afterPoll := by rw [h.target, Option.map_some, replay_poll h.codes h.mode h.outside]
    exact ⟨h.ready, h.codes, h.bit, h.free, htarget, h.mode, exitState_ne_shiftDr s.cfg .dr, hless, rfl⟩
  · change (if t.busyPolls - 1 = 0 then s.cfg.readyDebounce - s.countAfterPoll [s.cfg.flashOps.rdsr1, 0]
      else t.busyPolls - 1 + s.cfg.readyDebounce) + 1 = _
    rw [pollsLeft] at hmore
    rw [hafter, pollsLeft]
    by_cases hbusy : t.busyPolls = 0
    · simp only [hbusy, Nat.zero_sub, if_true] at hmore ⊢
      omega
    · simp only [hbusy, if_false]
      split <;> omega

theorem WaitsOnFlash.step_ends (h : WaitsOnFlash s t polls) (hlast : pollsLeft s t = 1) :
    ∃ u, step s = .next u ∧ WaitIsOver s t (polls + 1) u := by
  have hafter := countAfterPoll_onTarget h.bit h.target h.mode h.outside
  have hcount := h.count
  rw [pollsLeft] at hlast
  have hbusy : t.busyPolls = 0 := by
    split at hlast
    · assumption
    · omega
  rw [if_pos hbusy] at hlast hafter
  refine ⟨_, step_pollReady h.task h.ready rfl (okFor_of_target h.target 2) (by omega), rfl, rfl, h.free, rfl,
    t.afterPoll, ?_, ?_, rfl⟩
  · change (s.target.map fun t => t.replay s.cfg s.tap (s.framed [] s.tap [s.cfg.flashOps.rdsr1, 0] true)) = _
    rw [h.target, Option.map_some, replay_poll h.codes h.mode h.outside]
  · rw [Target.afterPoll, hbusy]

end

/-- A wait on a reference target makes exactly the polls it has left, by induction on their number. -/
theorem WaitsOnFlash.untilIdle {s : State} {t : Target} {polls n : Nat} (h : WaitsOnFlash s t polls)
    (hleft : pollsLeft s t = n + 1) :
    ∃ u, untilIdle (n + 1) (.next s) = .next u ∧ WaitIsOver s t (polls + (n + 1)) u := by
  induction n generalizing s t polls with
  | zero =>
    obtain ⟨u, hstep, hover⟩ := h.step_ends hleft
    exact ⟨u, by rw [untilIdle_of_task h.task, hstep, Machine.untilIdle], hover⟩
  | succ n ih =>
    obtain ⟨v, hstep, hv, hresults, hless⟩ := h.step_again (by omega)
    obtain ⟨u, hrun, hover⟩ := ih hv (by omega)
    refine ⟨u, by rw [untilIdle_of_task h.task, hstep, hrun], hover.task, hover.mustPoll, hover.free, ?_, hover.target⟩
    rw [hover.results, hresults, Nat.add_assoc, Nat.add_comm 1]

/-- `F_WAIT` on a flash that is busy for b polls makes b + `READY_DEBOUNCE` polls (R218). -/
theorem fWait_onTarget {s : State} {t : Target} (hs : s.Ready) (hc : s.cfg.Wf) (htask : s.task = none)
    (hbit : s.cfg.busyBit = 0) (hfree : s.HazardFree) (hpt : s.pt = true) (htarget : s.target = some t)
    (hmode : t.mode = .passthrough) (hout : s.tap ≠ .shiftDr) :
    ∃ k u, untilIdle k (exec .fWait s) = .next u ∧ WaitIsOver s t (t.busyPolls + s.cfg.readyDebounce) u := by
  have hpos := one_le_readyDebounce hc
  have hwaits : WaitsOnFlash { s with rdyCount := 0, task := some ⟨0, .wait, none⟩ } t 0 :=
    ⟨hs, hc.2.1, hbit, hfree, htarget, hmode, hout, hpos, rfl⟩
  have hleft : pollsLeft { s with rdyCount := 0, task := some ⟨0, .wait, none⟩ } t =
      t.busyPolls + (s.cfg.readyDebounce - 1) + 1 := by
    simp only [pollsLeft]
    split <;> omega
  obtain ⟨u, hrun, hover⟩ := hwaits.untilIdle hleft
  rw [untilIdle_of_task rfl, ← exec_fWait_eq_step hs htask (flashHazards_clean hpt (.inr rfl) (.inl hout)).symm] at hrun
  have hpolls : 0 + (t.busyPolls + (s.cfg.readyDebounce - 1) + 1) = t.busyPolls + s.cfg.readyDebounce := by omega
  rw [hpolls] at hover
  exact ⟨_, u, hrun, hover.task, hover.mustPoll, hover.free, hover.results, hover.target⟩

/-! ## A wait without a bound -/

section
variable {s : State}

theorem getElem?_rxOf (k n j : Nat) (hj : j < n) :
    (s.rxOf k n)[j]? = some (((s.answerAt k).rx[j]?).getD (Config.driverByte (s.drawn + k) j)) := by
  simp [State.rxOf, hj]

/-- The answers after some events are the later ones. -/
theorem answerAt_saw (e : List Event) (t : TapState) (rd bo : Bool) (j : Nat) :
    (s.saw e t rd bo).answerAt j = s.answerAt (answersOf e + j) := by
  simp [State.answerAt, Nat.add_assoc]

/-- The oracle's next answers, each Ok, read busy whether a move takes the first of them or not (R218). -/
def State.ReadsBusy (s : State) (n : Nat) : Prop :=
  ∀ j < n, (s.answerAt j).ok = true ∧ ∃ b, (s.answerAt j).rx[1]? = some b ∧ (rev8 b).getLsbD s.cfg.busyBit = true

theorem countAfterPoll_of_readsBusy {poll : List Byte} (hpoll : poll = [s.cfg.flashOps.rdsr1, 0])
    (htarget : s.target = none) (h : s.ReadsBusy 2) : s.countAfterPoll poll = 0 := by
  have hgo := answersOf_goTos s.tap .shiftDr
  obtain ⟨-, b, hb, hbusy⟩ := h (answersOf (goTos s.tap .shiftDr)) (by omega)
  have hbyte : (s.spiRx [] s.tap poll).getD 1 0 = rev8 b := by
    rw [List.getD_eq_getElem?_getD, State.spiRx, List.nil_append, getElem?_revBuf, State.rxAt, htarget, hpoll]
    rw [getElem?_rxOf _ _ _ (by simp), hb]
    rfl
  rw [State.countAfterPoll, hbyte, hbusy]
  rfl

/-- A poll takes at most two answers, and the others are as they were. -/
theorem State.ReadsBusy.pollAgain {n : Nat} {poll : List Byte} {w : Option Task} (h : s.ReadsBusy (n + 2)) :
    ({ s.pollAgain poll with task := w } : State).ReadsBusy n := by
  intro j hj
  have hanswers : answersOf (s.framed [] s.tap poll true) ≤ 2 := answersOf_framed s [] s.tap poll true
  have hlater := h (answersOf (s.framed [] s.tap poll true) + j) (by omega)
  rw [← answerAt_saw _ (exitState s.cfg .dr) false false] at hlater
  exact hlater

/-- By induction on the polls, each of which reads busy and leaves the counter at 0. -/
theorem untilIdle_of_readsBusy {w : Task} {n : Nat} (hs : s.Ready) (hpos : 1 ≤ s.cfg.readyDebounce)
    (htask : s.task = some w) (htarget : s.target = none) (h : s.ReadsBusy (2 * n)) :
    ∃ u, untilIdle n (.next s) = .next u ∧ u.task = some { w with polls := w.polls + n } ∧ u.results = s.results := by
  induction n generalizing s w with
  | zero => exact ⟨s, rfl, htask, rfl⟩
  | succ n ih =>
    have hfirst : s.ReadsBusy 2 := fun j hj => h j (by omega)
    have hcount := countAfterPoll_of_readsBusy rfl htarget hfirst
    have hstep := step_pollAgain htask hs rfl (.inr fun j hj => (hfirst j hj).1) (by omega)
    have hnone : (s.target.map fun t => t.replay s.cfg s.tap (s.framed [] s.tap [s.cfg.flashOps.rdsr1, 0] true)) = none := by
      rw [htarget, Option.map_none]
    obtain ⟨u, hrun, hutask, hresults⟩ := ih (s := { s.pollAgain [s.cfg.flashOps.rdsr1, 0] with
      task := some { w with polls := w.polls + 1 } }) hs hpos rfl hnone h.pollAgain
    refine ⟨u, by rw [untilIdle_of_task htask, hstep, hrun], ?_, hresults⟩
    rw [hutask, Nat.add_assoc, Nat.add_comm 1]

end

/-- Settles O57: on a reference target by the polls that are left, and with no target by the answers that are. -/
theorem waitsEndWhenReady : Obligations.WaitsEndWhenReady := by
  refine ⟨fun s t hs hc htask hbit hfree hpt htarget hmode hout => ?_, fun s w n hs hc htask htarget h => ?_⟩
  · obtain ⟨k, u, hrun, hover⟩ := fWait_onTarget hs hc htask hbit hfree hpt htarget hmode hout
    obtain ⟨t', hutarget, hready, hmem⟩ := hover.target
    refine ⟨k, u, hrun, hover.task, hover.mustPoll, hover.free, hover.results, fun x => ?_, t', hutarget, hready⟩
    rw [State.flashAt, State.flashAt, hutarget, htarget, Option.map_some, Option.map_some, hmem]
  · exact untilIdle_of_readsBusy hs (one_le_readyDebounce hc) htask htarget h

end Sys2Proof.Machine
end

section
/-! SUPPORT. The configuration commands where every answer is Ok (44_config_sequencer.md R250 to R260). Each but `C_BURST_DATA`
is the load of a TAP instruction, the shift it has if any, and a move, and ends with what is its own: a settle, an open
burst, or passthrough. `C_BURST_DATA` is one held shift. -/

namespace Sys2Proof.Machine

section
variable {s : State}

/-! ## What follows a TAP instruction -/

/-- The exit of a shift is no DR stay, so that a move from there ends no streamed read and no burst (10_state.md R44). -/
theorem survives_exitState (c : Cfg) (reg : Reg) (dst : TapState) : survives (exitState c reg) dst = true := by
  have hexit : endsDrStay (exitState c reg) dst = false := by
    cases reg <;> simp only [exitState] <;> split <;> rfl
  rw [survives, hexit, Bool.not_false, Bool.or_true]

theorem goTos_exitState_captureDr (c : Cfg) (reg : Reg) : goTos (exitState c reg) .captureDr = [.goTo .captureDr] := by
  cases reg <;> simp only [exitState] <;> split <;> rfl

theorem answersOf_registerEvents (s : State) (code : Byte) : answersOf (s.registerEvents code) ≤ 3 := by
  have hload := answersOf_loaded s [] s.tap code
  simp only [State.registerEvents, answersOf_append, answersOf] at hload ⊢
  omega

/-- The TAP moves on from a loaded instruction. -/
theorem tapGoTo_loadedIr (hs : s.Ready) (hok : s.OkFor 3) (code : Byte) (dst : TapState) :
    tapGoTo dst (s.loadedIr code) = .ok ()
      { s.saw (s.loaded [] s.tap code ++ goTos (exitState s.cfg .ir) dst) dst (s.rdOpen && survives s.tap .shiftIr)
          (s.burstOpen && survives s.tap .shiftIr) with pt := false } := by
  have hmove := tapGoTo_saw (s := { s with pt := false }) (e := s.loaded [] s.tap code)
    (rd := s.rdOpen && survives s.tap .shiftIr) (bo := s.burstOpen && survives s.tap .shiftIr) dst hs.2 hok
    (Nat.succ_le_succ (answersOf_loaded s [] s.tap code)) (tapAfter_loaded s [] s.tap code).symm
  rw [survives_exitState, Bool.and_true, Bool.and_true] at hmove
  exact hmove

/-- A DR shift of whole bytes after a loaded instruction, with an exit: any streamed read and any burst end. -/
theorem move_shift_dr_loadedIr (hs : s.Ready) (hok : s.OkFor 4) (code : Byte) (tx : List Byte) {bits : Nat}
    (hbits : bits = 8 * tx.length) :
    (tapGoTo .shiftDr >>= fun _ => tapShift tx bits true) (s.loadedIr code) =
      .ok (s.rxAt (s.registerEvents code) .dr tx) (s.registerRead code tx) := by
  have hshift := move_shift_dr_saw (s := { s with pt := false }) (e := s.loaded [] s.tap code) (t := exitState s.cfg .ir)
    (rd := s.rdOpen && survives s.tap .shiftIr) (bo := s.burstOpen && survives s.tap .shiftIr) tx bits true hs.2 hok
    (by rw [goTos_exitState_shiftDr]; exact Nat.succ_le_succ (answersOf_registerEvents s code))
    (tapAfter_loaded s [] s.tap code).symm hbits
  rw [goTos_exitState_shiftDr, Bool.not_true, Bool.and_false, Bool.and_false] at hshift
  exact hshift

theorem tapAfter_registerShift (s : State) (code : Byte) (tx : List Byte) :
    tapAfter s.cfg s.tap (s.shifted (s.registerEvents code) .dr tx true) = exitState s.cfg .dr := by
  rw [State.shifted, tapAfter_append]
  rfl

/-- The TAP moves on from the exit of that shift. -/
theorem tapGoTo_registerRead (hs : s.Ready) (hok : s.OkFor 5) (code : Byte) (tx : List Byte) (dst : TapState) :
    tapGoTo dst (s.registerRead code tx) = .ok ()
      { s.saw (s.shifted (s.registerEvents code) .dr tx true ++ goTos (exitState s.cfg .dr) dst) dst false false with
        pt := false } :=
  tapGoTo_saw (s := { s with pt := false }) (e := s.shifted (s.registerEvents code) .dr tx true) (rd := false)
    (bo := false) dst hs.2 hok
    (by rw [answersOf_shifted]; exact Nat.add_le_add_right (answersOf_registerEvents s code) 2)
    (tapAfter_registerShift s code tx).symm

/-! ## The simple commands -/

/-- The events up to RUN_TEST_IDLE of an instruction with its optional parameter (44_config_sequencer.md R250). -/
def State.simpleEvents (s : State) (code : Byte) : Option Byte → List Event
  | none => s.loaded [] s.tap code ++ goTos (exitState s.cfg .ir) .runTestIdle
  | some b => s.shifted (s.registerEvents code) .dr [b] true ++ goTos (exitState s.cfg .dr) .runTestIdle

/-- Whether a streamed read and a burst stay open: the exit of a parameter's shift ends them (10_state.md R45), the load of
the instruction only if it leaves a DR stay (R44). -/
def State.simpleKeeps (s : State) (p : Option Byte) : Bool := p.isNone && survives s.tap .shiftIr

/-- The state after those events and some more that keep the TAP in RUN_TEST_IDLE. -/
def State.simpleDone (s : State) (code : Byte) (p : Option Byte) (more : List Event) : State :=
  { s.saw (s.simpleEvents code p ++ more) .runTestIdle (s.rdOpen && s.simpleKeeps p) (s.burstOpen && s.simpleKeeps p) with
    pt := false }

theorem answersOf_simpleEvents (s : State) (code : Byte) (p : Option Byte) : answersOf (s.simpleEvents code p) ≤ 5 := by
  cases p with
  | none =>
    have hload := answersOf_loaded s [] s.tap code
    have hmove := answersOf_goTos (exitState s.cfg .ir) .runTestIdle
    simp only [State.simpleEvents, answersOf_append, answersOf] at hload ⊢
    omega
  | some b =>
    have hshift := answersOf_registerEvents s code
    have hmove := answersOf_goTos (exitState s.cfg .dr) .runTestIdle
    simp only [State.simpleEvents, answersOf_append, answersOf_shifted]
    omega

theorem tapAfter_simpleEvents (s : State) (code : Byte) (p : Option Byte) :
    tapAfter s.cfg s.tap (s.simpleEvents code p) = .runTestIdle := by
  cases p with
  | none => rw [State.simpleEvents, tapAfter_append, tapAfter_loaded, tapAfter_goTos]
  | some b => rw [State.simpleEvents, tapAfter_append, tapAfter_registerShift, tapAfter_goTos]

/-- The parameter, if there is one, and the move to RUN_TEST_IDLE. -/
theorem sendParam_idle_ok (hs : s.Ready) (hok : s.OkFor 5) (code : Byte) (p : Option Byte) :
    (sendParam p >>= fun _ => tapGoTo .runTestIdle) (s.loadedIr code) = .ok () (s.simpleDone code p []) := by
  unfold State.simpleDone
  rw [List.append_nil]
  cases p with
  | none => exact bind_trans rfl (tapGoTo_loadedIr hs (okFor_mono hok (by decide)) code .runTestIdle)
  | some b =>
    have hparam : sendParam (some b) (s.loadedIr code) = .ok () (s.registerRead code [b]) :=
      bind_trans₂ (move_shift_dr_loadedIr hs (okFor_mono hok (by decide)) code [b] rfl) rfl
    simp only [State.simpleKeeps, Option.isNone_some, Bool.false_and, Bool.and_false]
    exact bind_trans hparam (tapGoTo_registerRead hs hok code [b] .runTestIdle)

/-- The settle is the last event (44_config_sequencer.md R250). -/
theorem tapSettle_simpleDone (hs : s.Ready) (hok : s.OkFor 6) (code : Byte) (p : Option Byte) (cycles : Nat) :
    tapSettle cycles (s.simpleDone code p []) = .ok () (s.simpleDone code p [.settle cycles]) := by
  have hsettle := tapSettle_saw (s := { s with pt := false }) (e := s.simpleEvents code p)
    (rd := s.rdOpen && s.simpleKeeps p) (bo := s.burstOpen && s.simpleKeeps p) cycles hs.2 hok
    (Nat.succ_le_succ (answersOf_simpleEvents s code p)) (tapAfter_simpleEvents s code p).symm rfl
  unfold State.simpleDone
  rw [List.append_nil]
  exact hsettle

theorem simpleCfg_ok (hs : s.Ready) (hc : s.cfg.Wf) {f : Family} (hf : s.knownFamily = some f) (hok : s.OkFor 6)
    (n : IrName) :
    simpleCfg n s = .ok (.ended .ok .none)
      (s.simpleDone ((s.cfg.fam f).ir.get n) ((s.cfg.fam f).param.get n) [.settle s.cfg.settleCycles]) :=
  bind_trans (checks_ok hs) (bind_trans (cfgFamily_ok hf) (bind_trans (get_run s)
    (bind_trans (irLoad_loadedIr hs hc (okFor_mono hok (by decide)) f _)
      (bind_trans₂ (sendParam_idle_ok hs (okFor_mono hok (by decide)) _ _)
        (bind_trans (tapSettle_simpleDone hs hok _ _ _) rfl)))))

/-! ## The burst -/

/-- The TAP waits in CAPTURE_DR, and no settle follows (70_reset_and_hazards.md R380). -/
theorem cmdCBurst_ok (hs : s.Ready) (hc : s.cfg.Wf) {f : Family} (hf : s.knownFamily = some f) (hok : s.OkFor 3) :
    cmdCBurst s = .ok (.ended .ok .none)
      { s.saw (s.loaded [] s.tap (s.cfg.fam f).ir.burst ++ [Event.goTo .captureDr]) .captureDr
          (s.rdOpen && survives s.tap .shiftIr) true with pt := false } := by
  have hmove := tapGoTo_loadedIr hs hok (s.cfg.fam f).ir.burst .captureDr
  rw [goTos_exitState_captureDr] at hmove
  exact bind_trans (checks_ok hs) (bind_trans (cfgFamily_ok hf) (bind_trans (get_run s)
    (bind_trans (irLoad_loadedIr hs hc (okFor_mono hok (by decide)) f _) (bind_trans hmove rfl))))

/-- The shift does not exit, so that the burst stays open (44_config_sequencer.md R257). -/
theorem cmdCBurstData_ok (hs : s.Ready) (hok : s.OkFor 3) {data : List Byte} (hopen : s.burstOpen = true)
    (hlen : xferLenOk s.cfg data.length = true) :
    cmdCBurstData data s = .ok (.ended .ok .none) (s.saw (s.framed [] s.tap data false) .shiftDr s.rdOpen true) := by
  have hrequire : require s.burstOpen .noOpenBurst s = .ok () s := by rw [hopen]; rfl
  have hshift := move_shift_dr_ok (revBuf data) (8 * data.length) false hs.2 hok
    (Nat.le_trans (answersOf_goTos_succ s.tap .shiftDr) (by decide)) (by rw [revBuf_length])
  rw [Bool.not_false, Bool.and_true, Bool.and_true, hopen] at hshift
  refine bind_trans (get_run s) ?_
  rw [hlen]
  exact bind_trans (checks_ok hs) (bind_trans (get_run s) (bind_trans hrequire (bind_trans₂ hshift rfl)))

/-! ## Passthrough -/

/-- The unlock sequence is shifted while `s.pt` is false, and only then is passthrough entered (44_config_sequencer.md
R258). -/
theorem cmdCPassthrough_ok (hs : s.Ready) (hc : s.cfg.Wf) {f : Family} (hf : s.knownFamily = some f) (hok : s.OkFor 5) :
    cmdCPassthrough s = .ok (.ended .ok .none)
      { s.saw (s.shifted (s.registerEvents (s.cfg.fam f).ir.passthrough) .dr (s.cfg.fam f).unlock true ++
          goTos (exitState s.cfg .dr) .runTestIdle) .runTestIdle false false with pt := true } := by
  have hunlock := move_shift_dr_loadedIr hs (okFor_mono hok (by decide)) (s.cfg.fam f).ir.passthrough
    (s.cfg.fam f).unlock (bits := 8 * s.cfg.unlockLen) (by rw [unlock_length hc f])
  exact bind_trans (checks_ok hs) (bind_trans (cfgFamily_ok hf) (bind_trans (get_run s)
    (bind_trans (irLoad_loadedIr hs hc (okFor_mono hok (by decide)) f _)
      (bind_trans₂ hunlock (bind_trans (tapGoTo_registerRead hs hok _ _ .runTestIdle) rfl)))))

end

/-! ## The statements -/

/-- Settles O45: one run for all five, whose parameter is there or not. -/
theorem simpleConfigurationCommands : Obligations.SimpleConfigurationCommands := by
  intro s f hs hc hf hok after
  have hafter : ∀ n, after n =
      s.simpleDone ((s.cfg.fam f).ir.get n) ((s.cfg.fam f).param.get n) [.settle s.cfg.settleCycles] := by
    intro n
    simp only [after, State.simpleDone, State.simpleKeeps]
    cases (s.cfg.fam f).param.get n <;> rfl
  have hrun := fun n => commit_ended (simpleCfg_ok hs hc hf hok n)
  simp only [hafter]
  exact ⟨hrun .enable, hrun .erase, hrun .disable, hrun .resetCrc, hrun .refresh⟩

/-- Settles O46: the burst is opened by its instruction and a move, and its data is one shift that is held. -/
theorem burstCommands : Obligations.BurstCommands := fun _ hs hok =>
  ⟨fun _ hc hf => commit_ended (cmdCBurst_ok hs hc hf hok),
    fun _ hopen hlen => commit_ended (cmdCBurstData_ok hs hok hopen hlen)⟩

/-- Settles O47: the instruction, the unlock sequence as it stands, and the move that ends the command. -/
theorem passthroughCommand : Obligations.PassthroughCommand := fun _ _ hs hc hf hok =>
  commit_ended (cmdCPassthrough_ok hs hc hf hok)

end Sys2Proof.Machine
end

section
/-! SUPPORT. What stops an instruction before its first primitive, in the order of 60_exceptions.md R339: the session, the
operands, the sticky error, the state refusals. Every instruction but `SESSION_OPEN`, `SESSION_CLOSE`, the macros and the
fast-read row stops there with nothing changed, or runs and is not refused any more. -/

namespace Sys2Proof.Machine

/-! ## The stops of R339 -/

/-- The refusal that comes before every other stop (60_exceptions.md R339, steps 1 to 5): the session's, or the operands',
which the argument gives. -/
def State.earlyRefusal (s : State) (operand : Option Reason) : Option Reason :=
  if s.session = .closed then some .noSession else operand

/-- The stops of the common checks (R339, steps 1 to 6): an early refusal, or the sticky error. -/
def State.checkStop (s : State) (operand : Option Reason) : Option Stop :=
  ((s.earlyRefusal operand).map (.raise .refused)).or (if s.err then some (.raise .commFailure .sticky) else none)

/-- The refusal of a failed length check (41_spi_bridge.md R152, 20_memory.md R79). -/
def lengthRefusal (lenOk : Bool) : Option Reason := if lenOk then none else some .badLength

/-- The refusal of a command that needs a family (44_config_sequencer.md R259). -/
def State.familyRefusal (s : State) : Option Reason :=
  match s.dev with
  | none => some .notIdentified
  | some d => if d.family = .unknown ∧ s.cfg.unknownPolicy = .refuse then some .unknownFamily else none

/-- The refusal of a flash command without the open read it continues (43_flash_commands.md R217). -/
def State.readRefusal (s : State) (k : FlashKind) : Option Reason :=
  if k != .contRead || s.rdOpen then none else some .noOpenRead

/-- The refusal of burst data without an open burst (44_config_sequencer.md R257). -/
def State.burstRefusal (s : State) : Option Reason := if s.burstOpen then none else some .noOpenBurst

/-- The state refusal of an instruction (60_exceptions.md R339, step 7). -/
def stateRefusal (i : Instr) (s : State) : Option Reason :=
  if i.needsFamily then s.familyRefusal
  else match i with
    | .fContRead _ => s.readRefusal .contRead
    | .cBurstData _ => s.burstRefusal
    | _ => none

/-- What stops an instruction before its first primitive (R339). -/
def entryStop (i : Instr) (s : State) : Option Stop :=
  (s.checkStop (i.operandRefusal s.cfg)).or ((stateRefusal i s).map (.raise .refused))

section
variable {s : State} {operand : Option Reason}

theorem earlyRefusal_closed (h : s.session = .closed) : s.earlyRefusal operand = some .noSession := if_pos h

theorem earlyRefusal_opened (h : s.session = .opened) : s.earlyRefusal operand = operand := by
  rw [State.earlyRefusal, if_neg (by simp [h])]

theorem checkStop_of_refusal {r : Reason} (h : s.earlyRefusal operand = some r) :
    s.checkStop operand = some (.raise .refused r) := by simp [State.checkStop, h]

theorem checkStop_sticky (h : s.earlyRefusal operand = none) (herr : s.err = true) :
    s.checkStop operand = some (.raise .commFailure .sticky) := by simp [State.checkStop, h, herr]

theorem checkStop_none (h : s.earlyRefusal operand = none) (herr : s.err = false) : s.checkStop operand = none := by
  simp [State.checkStop, h, herr]

/-- While the sticky error is set nothing passes the checks (60_exceptions.md R332). -/
theorem checkStop_of_err (herr : s.err = true) : ∃ k r, s.checkStop operand = some (.raise k r) := by
  cases h : s.earlyRefusal operand with
  | none => exact ⟨_, _, checkStop_sticky h herr⟩
  | some r => exact ⟨_, _, checkStop_of_refusal h⟩

end

/-- An instruction that is one command by itself: not one of the session, no macro, not the row that is never sent
(43_flash_commands.md R222). -/
abbrev IsCommand (i : Instr) : Prop :=
  i.isSessionOpen = false ∧ i.isSessionClose = false ∧ i.isMacro = false ∧ i ≠ .opFastRead

/-! ## Commands with an entry -/

/-- Where `stop` names a stop, the command ends with it and has changed nothing; elsewhere it is not refused, and what it
comes to is as `good` says. -/
structure Gated {α : Type} (stop : State → Option Stop) (good : α → Prop) (b : Bridge α) : Prop where
  stops : ∀ {s e}, stop s = some e → b s = .error e s
  accepted : ∀ {s r t}, stop s = none → b s ≠ .error (.raise .refused r) t
  good : ∀ {s a t}, stop s = none → b s = .ok a t → good a

/-- The end of a command that is not REFUSED; a wait is no end. -/
def Flow.NotRefused : Flow → Prop
  | .ended k _ => k ≠ .refused
  | .waiting _ => True

/-- A part of a command that raises no refusal. -/
abbrev Unrefused {α : Type} (b : Bridge α) : Prop := Gated (fun _ => none) (fun _ => True) b

/-- A command, or its rest, that is never refused. -/
abbrev Accepted (b : Bridge Flow) : Prop := Gated (fun _ => none) Flow.NotRefused b

section
variable {α β : Type} {stop : State → Option Stop} {good : α → Prop}

/-- A sequence stops where its first part does, if its rest is never refused. -/
theorem Gated.bind {good' : β → Prop} {x : Bridge α} {f : α → Bridge β} (hx : Gated stop good x)
    (hf : ∀ a, Gated (fun _ => none) good' (f a)) : Gated stop good' (x >>= f) where
  stops h := bind_of_error (hx.stops h) f
  accepted h hrun := by
    rcases bind_eq_error.mp hrun with hrun | ⟨a, u, -, hrun⟩
    · exact hx.accepted h hrun
    · exact (hf a).accepted rfl hrun
  good h hrun := by
    obtain ⟨a, u, -, hrun⟩ := bind_eq_ok.mp hrun
    exact (hf a).good rfl hrun

/-- A part that only looks at the state adds its stops before those of the rest. -/
theorem Gated.look {look : State → Option Stop} {x : Bridge Unit} {b : Bridge α}
    (hstop : ∀ {s e}, look s = some e → x s = .error e s) (hpass : ∀ {s}, look s = none → x s = .ok () s)
    (hb : Gated stop good b) : Gated (fun s => (look s).or (stop s)) good (x >>= fun _ => b) where
  stops {s e} h := by
    rcases Option.or_eq_some_iff.mp h with h | ⟨hl, h⟩
    · exact bind_of_error (hstop h) _
    · exact bind_trans (hpass hl) (hb.stops h)
  accepted {s r t} h hrun := by
    obtain ⟨hl, h⟩ := Option.or_eq_none_iff.mp h
    rw [bind_of_ok (hpass hl)] at hrun
    exact hb.accepted h hrun
  good {s a t} h hrun := by
    obtain ⟨hl, h⟩ := Option.or_eq_none_iff.mp h
    rw [bind_of_ok (hpass hl)] at hrun
    exact hb.good h hrun

theorem unrefused_pure (a : α) : Unrefused (pure a : Bridge α) := ⟨nofun, fun _ => nofun, fun _ _ => trivial⟩
theorem unrefused_get : Unrefused (get : Bridge State) := ⟨nofun, fun _ => nofun, fun _ _ => trivial⟩
theorem unrefused_modify (g : State → State) : Unrefused (modify g : Bridge Unit) :=
  ⟨nofun, fun _ => nofun, fun _ _ => trivial⟩

theorem accepted_done (d : ResultData) : Accepted (done d) :=
  ⟨nofun, fun _ => nofun, fun _ h => by cases h; exact nofun⟩

theorem accepted_waiting (t : Task) : Accepted (pure (.waiting t)) :=
  ⟨nofun, fun _ => nofun, fun _ h => by cases h; trivial⟩

end

/-! ## The primitives and what is made of them are never refused -/

theorem unrefused_tapGoTo (dst : TapState) : Unrefused (tapGoTo dst) where
  stops := nofun
  accepted {s _ _} _ h := by
    rcases tapGoTo_cases dst s with ⟨-, k⟩ | ⟨-, -, k⟩ | ⟨-, -, -, k⟩ | ⟨-, -, -, k⟩ <;> cases k.symm.trans h
  good _ _ := trivial

theorem unrefused_tapShift (tx : List Byte) (n : Nat) (exit : Bool) : Unrefused (tapShift tx n exit) where
  stops := nofun
  accepted {s _ _} _ h := by
    rcases tapShift_cases tx n exit s with ⟨-, k⟩ | ⟨-, -, k⟩ | ⟨-, -, -, k⟩ | ⟨reg, -, -, -, -, k⟩ |
      ⟨reg, -, -, -, -, k⟩ <;> cases k.symm.trans h
  good _ _ := trivial

theorem unrefused_tapSettle (cycles : Nat) : Unrefused (tapSettle cycles) where
  stops := nofun
  accepted {s _ _} _ h := by
    rcases tapSettle_cases cycles s with ⟨-, k⟩ | ⟨-, -, k⟩ | ⟨-, -, -, k⟩ | ⟨-, -, -, k⟩ <;> cases k.symm.trans h
  good _ _ := trivial

theorem unrefused_irLoad (code : Byte) (len : Nat) : Unrefused (irLoad code len) :=
  (unrefused_tapGoTo _).bind fun _ => (unrefused_tapShift _ _ _).bind fun _ => unrefused_modify _

theorem unrefused_drRead (bits : Nat) : Unrefused (drRead bits) :=
  (unrefused_tapGoTo _).bind fun _ => unrefused_tapShift _ _ _

theorem unrefused_sendParam (p : Option Byte) : Unrefused (sendParam p) := by
  cases p with
  | none => exact unrefused_pure ()
  | some b => exact (unrefused_tapGoTo _).bind fun _ => (unrefused_tapShift _ _ _).bind fun _ => unrefused_pure ()

theorem unrefused_assertFrame (frame : List Byte) : Unrefused (assertFrame frame) := by
  unfold assertFrame
  split
  · exact ⟨nofun, fun _ => nofun, fun _ => nofun⟩
  · exact unrefused_pure ()

theorem unrefused_transactSPI (frame : List Byte) : Unrefused (transactSPI frame) := by
  have hshift : Unrefused (do
      let raw ← tapShift (revBuf frame) (8 * frame.length) true
      return revBuf raw) := (unrefused_tapShift _ _ _).bind fun _ => unrefused_pure _
  have htap : Unrefused tapState := unrefused_get.bind fun s => unrefused_pure s.tap
  refine (unrefused_assertFrame frame).bind fun _ => htap.bind fun tap => ?_
  split
  · exact (unrefused_tapGoTo _).bind fun _ => hshift
  · exact hshift

theorem unrefused_streamSPI (frame : List Byte) : Unrefused (streamSPI frame) :=
  (unrefused_assertFrame frame).bind fun _ => (unrefused_tapGoTo _).bind fun _ =>
    (unrefused_tapShift _ _ _).bind fun _ => unrefused_pure _

theorem unrefused_sendFrame (n : FlashName) (operands : List Byte) : Unrefused (sendFrame n operands) :=
  unrefused_get.bind fun _ => (unrefused_transactSPI _).bind fun _ => (unrefused_modify _).bind fun _ =>
    unrefused_pure _

theorem unrefused_sendHeader (n : FlashName) (a : Addr) : Unrefused (sendHeader n a) :=
  unrefused_get.bind fun _ => (unrefused_streamSPI _).bind fun _ => unrefused_pure ()

theorem unrefused_sendRegisterWrite (n : FlashName) (v : Byte) : Unrefused (sendRegisterWrite n v) :=
  (unrefused_modify _).bind fun _ => (unrefused_sendFrame _ _).bind fun _ => unrefused_pure ()

theorem unrefused_sendPage (a : Addr) (data : List Byte) : Unrefused (sendPage a data) :=
  (unrefused_sendHeader _ _).bind fun _ => (unrefused_transactSPI _).bind fun _ => unrefused_modify _

theorem unrefused_sendRdid : Unrefused sendRdid :=
  unrefused_get.bind fun _ => (unrefused_sendFrame _ _).bind fun _ => unrefused_pure _

theorem unrefused_openRead (a : Addr) : Unrefused (openRead a) :=
  (unrefused_sendHeader _ _).bind fun _ => unrefused_modify _

theorem unrefused_waitPoll (polls : Nat) : Unrefused (waitPoll polls) where
  stops := nofun
  accepted {s r t} _ h := by
    cases hframe : sendFrame .rdsr1 [0x00] s with
    | error e u =>
      rw [waitPoll_failed polls hframe] at h
      cases h
      exact (unrefused_sendFrame _ _).accepted rfl hframe
    | ok rx u =>
      by_cases hc : debounce u.rdyCount (!(registerByte rx).getLsbD u.cfg.busyBit) = u.cfg.readyDebounce
      · cases (waitPoll_satisfied polls hframe hc).symm.trans h
      · cases (waitPoll_unsatisfied polls hframe hc).symm.trans h
  good _ _ := trivial

theorem accepted_afterWait (cmd : WaitCmd) (polls : Nat) : Accepted (afterWait cmd polls) := by
  cases cmd with
  | wait => exact accepted_done _
  | unprotect => exact (unrefused_sendFrame _ _).bind fun _ => accepted_done _

theorem accepted_startWait (cmd : WaitCmd) : Accepted (startWait cmd) := by
  refine (unrefused_modify _).bind fun _ => (unrefused_waitPoll 0).bind fun p => ?_
  cases p with
  | satisfied n => exact accepted_afterWait cmd n
  | unsatisfied n => exact accepted_waiting _

/-! ## The parts that look -/

/-- The common checks are the stops of R339 up to the sticky error (41_spi_bridge.md R154). -/
theorem checks_run (lenOk : Bool) (s : State) :
    checks lenOk s = (s.checkStop (lengthRefusal lenOk)).elim (.ok () s) (.error · s) := by
  simp only [checks, checkSession, require, checkSticky, bind_run, ite_run, get_run, State.checkStop,
    State.earlyRefusal, lengthRefusal]
  by_cases hsession : s.session = .closed
  · simp [hsession]
  · cases lenOk <;> cases herr : s.err <;> simp [hsession, herr]

theorem checks_of_stop {s : State} {lenOk : Bool} {e : Stop} (h : s.checkStop (lengthRefusal lenOk) = some e) :
    checks lenOk s = .error e s := by rw [checks_run, h, Option.elim_some]

theorem checks_of_pass {s : State} {lenOk : Bool} (h : s.checkStop (lengthRefusal lenOk) = none) :
    checks lenOk s = .ok () s := by rw [checks_run, h, Option.elim_none]

theorem gated_checks {α : Type} {stop : State → Option Stop} {good : α → Prop} {b : Bridge α} (lenOk : Bool)
    (hb : Gated stop good b) :
    Gated (fun s => (s.checkStop (lengthRefusal lenOk)).or (stop s)) good (checks lenOk >>= fun _ => b) :=
  .look checks_of_stop checks_of_pass hb

/-- A command whose checks depend on the parameters. -/
theorem Gated.read {α : Type} {stop : Cfg → State → Option Stop} {good : α → Prop} {f : Cfg → Bridge α}
    (hf : ∀ c, Gated (stop c) good (f c)) : Gated (fun s => stop s.cfg s) good (get >>= fun u => f u.cfg) where
  stops {s _} h := (hf s.cfg).stops h
  accepted {s _ _} h := (hf s.cfg).accepted h
  good {s _ _} h := (hf s.cfg).good h

/-- A command whose length check depends on the parameters. -/
theorem gated_get_checks {α : Type} {stop : State → Option Stop} {good : α → Prop} {b : Bridge α} (lenOk : Cfg → Bool)
    (hb : Gated stop good b) :
    Gated (fun s => (s.checkStop (lengthRefusal (lenOk s.cfg))).or (stop s)) good
      (get >>= fun u => checks (lenOk u.cfg) >>= fun _ => b) :=
  .read fun c => gated_checks (lenOk c) hb

/-- The family, where the command is not refused (44_config_sequencer.md R259). -/
theorem gated_cfgFamily : Gated (fun s => s.familyRefusal.map (.raise .refused)) (fun _ => True) cfgFamily where
  stops {s e} h := by
    cases hdev : s.dev with
    | none =>
      simp only [State.familyRefusal, hdev] at h
      cases h
      simp [cfgFamily, bind_run, hdev]
    | some d =>
      by_cases hrefuse : d.family = .unknown ∧ s.cfg.unknownPolicy = .refuse
      · simp only [State.familyRefusal, hdev, if_pos hrefuse] at h
        cases h
        simp [cfgFamily, bind_run, hdev, hrefuse]
      · simp [State.familyRefusal, hdev, hrefuse] at h
  accepted {s r t} h hrun := by
    cases hdev : s.dev with
    | none => simp [State.familyRefusal, hdev] at h
    | some d =>
      have hpolicy : ¬(d.family = .unknown ∧ s.cfg.unknownPolicy = .refuse) := by
        simpa [State.familyRefusal, hdev] using h
      simp only [cfgFamily, bind_run, get_run, hdev] at hrun
      split at hrun
      · cases hp : s.cfg.unknownPolicy with
        | refuse => exact hpolicy ⟨‹_›, hp⟩
        | treatAsA => simp [hp] at hrun
      · cases hrun
  good _ _ := trivial

/-- A command that needs the family: the checks, and then the family. -/
theorem gated_family {f : Family → Bridge Flow} (hf : ∀ a, Accepted (f a)) :
    Gated (fun s => (s.checkStop none).or (s.familyRefusal.map (.raise .refused))) Flow.NotRefused
      (checks true >>= fun _ => cfgFamily >>= f) :=
  gated_checks true (gated_cfgFamily.bind hf)

/-- A requirement on the state. -/
theorem gated_require {α : Type} {good : α → Prop} {b : Bridge α} (p : State → Bool) (r : Reason)
    (hb : Gated (fun _ => none) good b) :
    Gated (fun s => (if p s then none else some r).map (.raise .refused)) good
      (get >>= fun u => require (p u) r >>= fun _ => b) where
  stops {s e} h := by
    cases hp : p s <;> simp only [hp] at h <;> cases h
    simp [bind_run, require, hp]
  accepted {s _ _} h hrun := by
    cases hp : p s with
    | false => simp [hp] at h
    | true =>
      simp only [bind_run, get_run, hp, require, if_true, pure_run] at hrun
      exact hb.accepted rfl hrun
  good {s _ _} h hrun := by
    cases hp : p s with
    | false => simp [hp] at h
    | true =>
      simp only [bind_run, get_run, hp, require, if_true, pure_run] at hrun
      exact hb.good rfl hrun

/-- The prologue of a flash command (43_flash_commands.md R200). -/
theorem gated_flashPrologue (k : FlashKind) (lenOk : Bool) :
    Gated (fun s => (s.checkStop (lengthRefusal lenOk)).or ((s.readRefusal k).map (.raise .refused))) (fun _ => True)
      (flashPrologue k lenOk) :=
  gated_checks lenOk (gated_require (fun s => k != .contRead || s.rdOpen) .noOpenRead (unrefused_modify _))

/-- A flash command: its prologue, and a rest that is never refused. -/
theorem gated_flash {b : Bridge Flow} (k : FlashKind) (lenOk : Bool) (hb : Accepted b) :
    Gated (fun s => (s.checkStop (lengthRefusal lenOk)).or ((s.readRefusal k).map (.raise .refused))) Flow.NotRefused
      (flashPrologue k lenOk >>= fun _ => b) :=
  (gated_flashPrologue k lenOk).bind fun _ => hb

/-- A flash command whose length check depends on the parameters (20_memory.md R79, 43_flash_commands.md R217). -/
theorem gated_get_flash {b : Bridge Flow} (k : FlashKind) (lenOk : Cfg → Bool) (hb : Accepted b) :
    Gated (fun s => (s.checkStop (lengthRefusal (lenOk s.cfg))).or ((s.readRefusal k).map (.raise .refused)))
      Flow.NotRefused (get >>= fun u => flashPrologue k (lenOk u.cfg) >>= fun _ => b) :=
  .read fun c => gated_flash k (lenOk c) hb

theorem gated_opRead (a : Addr) (count : Nat) :
    Gated (entryStop (.opRead a count)) Flow.NotRefused (cmdOpRead a count) := by
  have hrest : Accepted (openRead a >>= fun _ =>
      if count = 0 then done (.bytes []) else readFill count >>= fun rx => done (.bytes rx)) := by
    refine (unrefused_openRead a).bind fun _ => ?_
    split
    · exact accepted_done _
    · exact (unrefused_streamSPI _).bind fun _ => accepted_done _
  have hstop : entryStop (.opRead a count) =
      fun s => (s.checkStop (lengthRefusal (decide (count ≤ s.cfg.maxXferBytes)))).or none := by
    funext s
    simp only [lengthRefusal, decide_eq_true_eq]
    rfl
  rw [hstop]
  exact gated_get_checks (fun c => decide (count ≤ c.maxXferBytes)) hrest

/-- Every command by itself stops at its entry, or runs and is not refused (60_exceptions.md R339). -/
theorem exec_gated {i : Instr} (h : IsCommand i) :
    ∃ b, MakesUpdates b ∧ Gated (entryStop i) Flow.NotRefused b ∧ exec i = commit b := by
  obtain ⟨hopen, hclose, hmacro, hfast⟩ := h
  cases i with
  | spiXfer data =>
    exact ⟨_, cmdSpiXfer_updates data, gated_get_checks (xferLenOk · data.length)
      ((unrefused_transactSPI _).bind fun _ => (unrefused_modify _).bind fun _ => accepted_done _), rfl⟩
  | spiStream data =>
    exact ⟨_, cmdSpiStream_updates data, gated_get_checks (xferLenOk · data.length)
      ((unrefused_streamSPI _).bind fun _ => accepted_done _), rfl⟩
  | spiEnd => exact ⟨_, cmdSpiEnd_updates, gated_checks true ((unrefused_tapGoTo _).bind fun _ => accepted_done _), rfl⟩
  | readIdcode =>
    exact ⟨_, cmdReadIdcode_updates, gated_checks true (unrefused_get.bind fun _ => (unrefused_irLoad _ _).bind fun _ =>
      (unrefused_drRead _).bind fun _ => (unrefused_modify _).bind fun _ => accepted_done _), rfl⟩
  | readStatus =>
    exact ⟨_, cmdReadStatus_updates, gated_family fun _ => unrefused_get.bind fun _ =>
      (unrefused_irLoad _ _).bind fun _ => (unrefused_drRead _).bind fun _ => accepted_done _, rfl⟩
  | fWren =>
    exact ⟨_, cmdFWren_updates, gated_flash .plain true ((unrefused_sendFrame _ _).bind fun _ => accepted_done _), rfl⟩
  | fWrdi =>
    exact ⟨_, cmdFWrdi_updates, gated_flash .plain true ((unrefused_sendFrame _ _).bind fun _ => accepted_done _), rfl⟩
  | fRdsr1 =>
    exact ⟨_, readRegister_updates .poll _,
      gated_flash .poll true ((unrefused_sendFrame _ _).bind fun _ => accepted_done _), rfl⟩
  | fRdsr2 | fRdsr3 =>
    exact ⟨_, readRegister_updates .plain _,
      gated_flash .plain true ((unrefused_sendFrame _ _).bind fun _ => accepted_done _), rfl⟩
  | fWrsr1 v | fWrsr2 v | fWrsr3 v =>
    exact ⟨_, writeRegister_updates _ v,
      gated_flash .plain true ((unrefused_sendRegisterWrite _ _).bind fun _ => accepted_done _), rfl⟩
  | fCe | fSe4k a | fBe32k a | fBe64k a =>
    exact ⟨_, eraseFrames_updates _ _, gated_flash .plain true ((unrefused_sendFrame _ _).bind fun _ =>
      (unrefused_sendFrame _ _).bind fun _ => accepted_done _), rfl⟩
  | fPp a data =>
    exact ⟨_, cmdFPp_updates a data, gated_get_flash .plain (pageLenOk · a data.length)
      ((unrefused_sendFrame _ _).bind fun _ => (unrefused_sendPage _ _).bind fun _ => accepted_done _), rfl⟩
  | fRdid =>
    exact ⟨_, cmdFRdid_updates, gated_flash .plain true (unrefused_sendRdid.bind fun _ => accepted_done _), rfl⟩
  | fRead a =>
    exact ⟨_, cmdFRead_updates a, gated_flash .plain true ((unrefused_openRead _).bind fun _ => accepted_done _), rfl⟩
  | fContRead n =>
    exact ⟨_, cmdFContRead_updates n, gated_get_flash .contRead (xferLenOk · n.toNat)
      ((unrefused_streamSPI _).bind fun _ => accepted_done _), rfl⟩
  | fWait => exact ⟨_, cmdFWait_updates, gated_flash .poll true (accepted_startWait _), rfl⟩
  | fUnprotect =>
    exact ⟨_, cmdFUnprotect_updates, gated_flash .plain true ((unrefused_sendRegisterWrite _ _).bind fun _ =>
      accepted_startWait _), rfl⟩
  | fReset =>
    exact ⟨_, cmdFReset_updates, gated_flash .plain true (unrefused_get.bind fun _ =>
      (unrefused_transactSPI _).bind fun _ => accepted_done _), rfl⟩
  | cEnable | cErase | cDisable | cResetCrc | cRefresh =>
    exact ⟨_, simpleCfg_updates _, gated_family fun _ => unrefused_get.bind fun _ =>
      (unrefused_irLoad _ _).bind fun _ => (unrefused_sendParam _).bind fun _ => (unrefused_tapGoTo _).bind fun _ => (unrefused_tapSettle _).bind fun _ =>
        accepted_done _, rfl⟩
  | cBurst =>
    exact ⟨_, cmdCBurst_updates, gated_family fun _ => unrefused_get.bind fun _ => (unrefused_irLoad _ _).bind fun _ =>
      (unrefused_tapGoTo _).bind fun _ => (unrefused_modify _).bind fun _ => accepted_done _, rfl⟩
  | cBurstData data =>
    exact ⟨_, cmdCBurstData_updates data, gated_get_checks (xferLenOk · data.length)
      (gated_require State.burstOpen .noOpenBurst ((unrefused_tapGoTo _).bind fun _ =>
        (unrefused_tapShift _ _ _).bind fun _ => accepted_done _)), rfl⟩
  | cPassthrough =>
    exact ⟨_, cmdCPassthrough_updates, gated_family fun _ => unrefused_get.bind fun _ =>
      (unrefused_irLoad _ _).bind fun _ => (unrefused_tapGoTo _).bind fun _ => (unrefused_tapShift _ _ _).bind fun _ =>
        (unrefused_tapGoTo _).bind fun _ => (unrefused_modify _).bind fun _ => accepted_done _, rfl⟩
  | opWren | opWrdi | opCe | opSe4k a | opBe32k a | opBe64k a =>
    exact ⟨_, frameRow_updates _ _, gated_checks true ((unrefused_sendFrame _ _).bind fun _ => accepted_done _), rfl⟩
  | opRdsr1 | opRdsr2 | opRdsr3 =>
    exact ⟨_, readRow_updates _, gated_checks true ((unrefused_sendFrame _ _).bind fun _ => accepted_done _), rfl⟩
  | opWrsr1 v | opWrsr2 v | opWrsr3 v =>
    exact ⟨_, writeRow_updates _ v,
      gated_checks true ((unrefused_sendRegisterWrite _ _).bind fun _ => accepted_done _), rfl⟩
  | opPp a data =>
    exact ⟨_, cmdOpPp_updates a data, gated_get_checks (pageLenOk · a data.length)
      ((unrefused_sendPage _ _).bind fun _ => accepted_done _), rfl⟩
  | opRdid => exact ⟨_, cmdOpRdid_updates, gated_checks true (unrefused_sendRdid.bind fun _ => accepted_done _), rfl⟩
  | opRead a count => exact ⟨_, cmdOpRead_updates a count, gated_opRead a count, rfl⟩
  | irIdcode =>
    exact ⟨_, cmdIrIdcode_updates, gated_checks true (unrefused_get.bind fun _ => (unrefused_irLoad _ _).bind fun _ =>
      accepted_done _), rfl⟩
  | irStatus | irEnable | irErase | irDisable | irResetCrc | irBurst | irRefresh | irPassthrough =>
    exact ⟨_, irRow_updates _, gated_family fun _ => unrefused_get.bind fun _ => (unrefused_irLoad _ _).bind fun _ =>
      accepted_done _, rfl⟩
  | _ => contradiction

/-- A command that stops at its entry answers its stop, and nothing else changes (60_exceptions.md R338). -/
theorem exec_of_entryStop {i : Instr} {s : State} {k : ResultKind} {r : Reason} (hi : IsCommand i)
    (h : entryStop i s = some (.raise k r)) : exec i s = .next (s.answer ⟨k, r, .none⟩) := by
  obtain ⟨b, -, hb, heq⟩ := exec_gated hi
  rw [heq, commit_raised (hb.stops h)]

/-- The stops of the common checks come first. -/
theorem entryStop_of_checkStop {i : Instr} {s : State} {e : Stop} (h : s.checkStop (i.operandRefusal s.cfg) = some e) :
    entryStop i s = some e := by
  rw [entryStop, h, Option.some_or]

end Sys2Proof.Machine
end

section
/-! SUPPORT. How a macro starts (45_orchestrator.md R281, R282): its validation, and then Identify with `READ_IDCODE`. And
which operands are in order (60_exceptions.md R339, steps 3 to 5). -/

namespace Sys2Proof.Machine

/-! ## Operands -/

/-- A range inside the flash is no longer than the flash (R281, steps 4 and 5). -/
theorem macroLenOk_of_rangeOk {offset : Addr} {n : Nat} (h : rangeOk offset n = true) : macroLenOk n = true := by
  simp only [rangeOk, macroLenOk, decide_eq_true_eq] at h ⊢
  omega

theorem ite_none_eq_none_iff {p : Prop} [Decidable p] {r : Reason} : (if p then none else some r) = none ↔ p := by
  split <;> simp_all

/-- The refusal of options and a range is none where both are in order. -/
theorem ite_ranged_eq_none_iff {p q : Prop} [Decidable p] [Decidable q] {r r' : Reason} :
    (if ¬p then some r else if q then none else some r') = none ↔ p ∧ q := by
  by_cases hp : p <;> by_cases hq : q <;> simp [hp, hq]

/-- An instruction has an operand refusal exactly when it is ill-formed. -/
theorem operandRefusal_eq_none_iff (c : Cfg) (i : Instr) : i.operandRefusal c = none ↔ i.WellFormed c := by
  cases i with
  | sessionOpen _ | spiXfer _ | spiStream _ | fPp _ _ | fContRead _ | cBurstData _ | mProbe _ | mLoadSram _ _ | opPp _ _
  | opRead _ _ => exact ite_none_eq_none_iff
  | mProgram _ _ _ _ | mErase _ _ _ _ =>
    exact ite_ranged_eq_none_iff.trans
      ⟨fun ⟨⟨hopts, hgran⟩, hrange⟩ => ⟨hopts, hgran, hrange, macroLenOk_of_rangeOk hrange⟩,
      fun ⟨hopts, hgran, hrange, _⟩ => ⟨⟨hopts, hgran⟩, hrange⟩⟩
  | mRead _ _ _ | mVerify _ _ _ =>
    exact ite_ranged_eq_none_iff.trans ⟨fun ⟨hopts, hrange⟩ => ⟨hopts, hrange, macroLenOk_of_rangeOk hrange⟩,
      fun ⟨hopts, hrange, _⟩ => ⟨hopts, hrange⟩⟩
  | _ => exact iff_of_true rfl trivial

/-! ## The validation of a macro -/

/-- The operand refusal of a macro, from the outcomes of its three checks (R281). -/
def macroRefusal (optionsOk rangeOk lengthOk : Bool) : Option Reason :=
  if ¬optionsOk then some .badOptions
  else if ¬rangeOk then some .badAddress
  else if lengthOk then none else some .badLength

theorem macroChecks_run {optionsOk rangeOk lengthOk : Bool} {operand : Option Reason} (s : State)
    (h : macroRefusal optionsOk rangeOk lengthOk = operand) :
    macroChecks optionsOk rangeOk lengthOk s =
      (s.earlyRefusal operand).elim (.ok () s) (fun r => .error (.raise .refused r) s) := by
  subst h
  simp only [macroChecks, checkSession, require, bind_run, ite_run, get_run, State.earlyRefusal, macroRefusal]
  by_cases hsession : s.session = .closed
  · simp [hsession]
  · cases optionsOk <;> cases rangeOk <;> cases lengthOk <;> simp [hsession]

theorem macroRefusal_options (optionsOk : Bool) :
    macroRefusal optionsOk true true = if optionsOk then none else some .badOptions := by cases optionsOk <;> rfl

/-- The length check refuses nothing that the range check accepts. -/
theorem macroRefusal_ranged {p : Prop} [Decidable p] {optionsOk rangeOk lengthOk : Bool} (hp : optionsOk = true ↔ p)
    (hlen : rangeOk = true → lengthOk = true) :
    macroRefusal optionsOk rangeOk lengthOk =
      if ¬p then some .badOptions else if rangeOk then none else some .badAddress := by
  simp only [macroRefusal, hp]
  cases rangeOk with
  | false => rfl
  | true => rw [hlen rfl]; rfl

/-- Every macro validates its operands and then runs an expansion that starts with Identify and `READ_IDCODE`
(R281, R282). -/
theorem exec_macro {i : Instr} (h : i.isMacro = true) (s : State) :
    ∃ x f k rest, exec i s = commit (x >>= f) s ∧
      x s = (s.earlyRefusal (i.operandRefusal s.cfg)).elim (.ok () s) (fun r => .error (.raise .refused r) s) ∧
      f () s = runMacro k (.enter .identify :: .sub .readIdcode .fresh :: rest) s := by
  cases i with
  | mIdentify => exact ⟨_, _, _, _, rfl, macroChecks_run s rfl, rfl⟩
  | mProbe opts => exact ⟨_, _, _, _, rfl, macroChecks_run s (macroRefusal_options _), rfl⟩
  | mLoadSram data opts => exact ⟨_, _, _, _, rfl, macroChecks_run s (macroRefusal_options _), rfl⟩
  | mProgram offset gran data opts =>
    exact ⟨_, _, _, _, rfl, macroChecks_run s (macroRefusal_ranged Bool.and_eq_true_iff macroLenOk_of_rangeOk), rfl⟩
  | mRead offset len opts =>
    exact ⟨_, _, _, _, rfl, macroChecks_run s (macroRefusal_ranged Iff.rfl macroLenOk_of_rangeOk), rfl⟩
  | mErase offset len gran opts =>
    exact ⟨_, _, _, _, rfl, macroChecks_run s (macroRefusal_ranged Bool.and_eq_true_iff macroLenOk_of_rangeOk), rfl⟩
  | mVerify offset data opts =>
    exact ⟨_, _, _, _, rfl, macroChecks_run s (macroRefusal_ranged Iff.rfl macroLenOk_of_rangeOk), rfl⟩
  | _ => contradiction

/-- A macro that is refused by its validation changes nothing but its result (R281, 60_exceptions.md R338). -/
theorem exec_macro_refused {i : Instr} {s : State} {r : Reason} (h : i.isMacro = true)
    (hr : s.earlyRefusal (i.operandRefusal s.cfg) = some r) : exec i s = .next (s.answer (refusedResult r)) := by
  obtain ⟨x, f, k, rest, heq, hrun, -⟩ := exec_macro h s
  rw [hr, Option.elim_some] at hrun
  rw [heq, commit_raised (bind_of_error hrun f)]
  rfl

/-- Under the sticky error an expansion stops in its first sub-command, and the macro goes from Identify straight to Idle
(R280, R297). -/
theorem runMacro_sticky {s : State} (hsession : s.session = .opened) (herr : s.err = true) (k : MacroKind)
    (rest : List PlanItem) :
    runMacro k (.enter .identify :: .sub .readIdcode .fresh :: rest) s =
      .error (.raise .commFailure .sticky) ((s.enterPhase .identify).enterPhase .idle) := by
  have hchecks : checks true (s.enterPhase .identify) = .error (.raise .commFailure .sticky) (s.enterPhase .identify) :=
    checks_of_stop (checkStop_sticky (earlyRefusal_opened hsession) herr)
  have hplan : runPlan k (.enter .identify :: .sub .readIdcode .fresh :: rest) {} s =
      .error (.raise .commFailure .sticky) (s.enterPhase .identify) :=
    bind_trans (enterPhase_run s .identify) (bind_of_error (bind_of_error hchecks _) _)
  simp only [runMacro, idleOnStop, hplan]

/-- A macro that passes its validation under the sticky error (60_exceptions.md R332). -/
theorem exec_macro_sticky {i : Instr} {s : State} (h : i.isMacro = true) (hsession : s.session = .opened)
    (hr : i.operandRefusal s.cfg = none) (herr : s.err = true) :
    exec i s = .next (((s.enterPhase .identify).enterPhase .idle).answer (failedResult .sticky)) := by
  obtain ⟨x, f, k, rest, heq, hrun, hf⟩ := exec_macro h s
  rw [earlyRefusal_opened hsession, hr, Option.elim_none] at hrun
  rw [heq, commit_raised (bind_trans hrun (hf.trans (runMacro_sticky hsession herr k rest)))]
  rfl

end Sys2Proof.Machine
end

section
/-! SUPPORT. The statements of 60_exceptions.md on failed primitives, the sticky short-circuit and refusals. -/

namespace Sys2Proof.Machine

/-! ## A failed primitive -/

/-- Settles O13: of all a primitive can do, the failed answer leaves one. -/
theorem failedPrimitive : Obligations.FailedPrimitive := by
  intro s herr htarget hanswer
  have hfail : s.driverOk = false := by simp [State.driverOk, htarget, hanswer]
  refine ⟨fun dst htap => ?_, fun reg tx exit hreg => ?_, fun cycles htap => ?_⟩
  · rcases tapGoTo_cases dst s with ⟨h, -⟩ | ⟨-, h, -⟩ | ⟨-, -, h, -⟩ | ⟨-, -, -, h⟩
    · simp [herr] at h
    · exact absurd h htap
    · simp [hfail] at h
    · exact h
  · have hrx : s.shiftRx reg tx = s.rxOf 0 tx.length := by
      rw [← rxAt_nil, State.rxAt, htarget]
      rfl
    rcases tapShift_cases tx (8 * tx.length) exit s with ⟨h, -⟩ | ⟨-, h, -⟩ | ⟨-, -, h, -⟩ | ⟨_, -, -, -, h, -⟩ |
      ⟨reg', -, hreg', -, -, h⟩
    · simp [herr] at h
    · simp [hreg] at h
    · exact absurd ⟨by omega, by omega⟩ h
    · simp [hfail] at h
    · cases hreg.symm.trans hreg'
      rw [h, hrx]
      rfl
  · rcases tapSettle_cases cycles s with ⟨h, -⟩ | ⟨-, h, -⟩ | ⟨-, -, h, -⟩ | ⟨-, -, -, h⟩
    · simp [herr] at h
    · exact absurd htap h
    · simp [hfail] at h
    · exact h

/-! ## The sticky short-circuit -/

/-- While the sticky error is set, a primitive stops before anything else (60_exceptions.md R332). -/
theorem tapGoTo_sticky {s : State} (herr : s.err = true) (dst : TapState) :
    tapGoTo dst s = .error (.raise .commFailure .sticky) s := if_pos herr

theorem tapShift_sticky {s : State} (herr : s.err = true) (tx : List Byte) (n : Nat) (exit : Bool) :
    tapShift tx n exit s = .error (.raise .commFailure .sticky) s := if_pos herr

theorem tapSettle_sticky {s : State} (herr : s.err = true) (cycles : Nat) :
    tapSettle cycles s = .error (.raise .commFailure .sticky) s := if_pos herr

/-- The two cases of an instruction that the sticky error stops: a command, or a macro. -/
theorem isCommand_or_isMacro {i : Instr} (hopen : i.isSessionOpen = false) (hclose : i.isSessionClose = false)
    (hfast : i ≠ .opFastRead) : IsCommand i ∨ i.isMacro = true := by
  cases hmacro : i.isMacro with
  | true => exact .inr rfl
  | false => exact .inl ⟨hopen, hclose, hmacro, hfast⟩

/-- Under the sticky error an instruction answers and has used no port (R332). -/
theorem exec_of_err {i : Instr} {s : State} (hopen : i.isSessionOpen = false) (hclose : i.isSessionClose = false)
    (hfast : i ≠ .opFastRead) (herr : s.err = true) :
    ∃ (t : State) (r : Result), exec i s = .next (t.answer r) ∧ t.trace = s.trace ∧ t.script = s.script ∧
      t.drawn = s.drawn := by
  rcases isCommand_or_isMacro hopen hclose hfast with hi | hmacro
  · obtain ⟨k, r, h⟩ := checkStop_of_err (operand := i.operandRefusal s.cfg) herr
    exact ⟨s, _, exec_of_entryStop hi (entryStop_of_checkStop h), rfl, rfl, rfl⟩
  · cases hr : s.earlyRefusal (i.operandRefusal s.cfg) with
    | some r => exact ⟨s, _, exec_macro_refused hmacro hr, rfl, rfl, rfl⟩
    | none =>
      have hsession : s.session = .opened := by
        cases h : s.session with
        | closed => rw [earlyRefusal_closed h] at hr; cases hr
        | opened => rfl
      rw [earlyRefusal_opened hsession] at hr
      exact ⟨_, _, exec_macro_sticky hmacro hsession hr herr, rfl, rfl, rfl⟩

/-- Settles O12: the primitives test the sticky error first, a command tests it at its entry, and a macro meets it in its
first sub-command. -/
theorem stickyShortCircuit : Obligations.StickyShortCircuit := by
  refine ⟨fun s herr => ⟨tapGoTo_sticky herr, tapShift_sticky herr, tapSettle_sticky herr, rfl, fun _ => rfl⟩,
    fun i s s' herr hopen hclose h => ?_, fun i s hsession herr hopen hclose hfast hwf => ?_⟩
  · have hfast : i ≠ .opFastRead := fun hi => by rw [hi] at h; cases h
    obtain ⟨t, r, heq, hports⟩ := exec_of_err hopen hclose hfast herr
    cases heq.symm.trans h
    exact hports
  · have hoperand := (operandRefusal_eq_none_iff s.cfg i).mpr hwf
    rcases isCommand_or_isMacro hopen hclose hfast with hi | hmacro
    · have hstop := checkStop_sticky ((earlyRefusal_opened hsession).trans hoperand) herr
      rw [exec_of_entryStop hi (entryStop_of_checkStop hstop), hi.2.2.1]
      rfl
    · rw [exec_macro_sticky hmacro hsession hoperand herr, hmacro]
      simp [State.enterPhase]

/-! ## Refusals -/

/-- `SESSION_OPEN` with too long a selector (70_reset_and_hazards.md R371). -/
theorem execSessionOpen_of_long {sel : List Byte} {s : State} (h : ¬sel.length ≤ s.cfg.maxXferBytes) :
    execSessionOpen sel s = .next (s.answer (refusedResult .badLength)) := congrArg _ (if_neg h)

theorem execSessionOpen_of_short {sel : List Byte} {s : State} (h : sel.length ≤ s.cfg.maxXferBytes) :
    execSessionOpen sel s = .next (s.openSession sel) := congrArg _ (if_pos h)

/-- Settles O14: the operand checks are those of `WellFormed`, and they come before every other check but the session's. -/
theorem operandRefusals : Obligations.OperandRefusals := by
  intro i s
  refine ⟨operandRefusal_eq_none_iff s.cfg i, fun r hsession hr => ?_⟩
  cases hopen : i.isSessionOpen with
  | true =>
    cases i <;> cases hopen
    rename_i sel
    by_cases hlen : sel.length ≤ s.cfg.maxXferBytes
    · cases (if_pos hlen).symm.trans hr
    · cases (if_neg hlen).symm.trans hr
      exact execSessionOpen_of_long hlen
  | false =>
    have hsession : s.session = .opened := by simpa [hopen] using hsession
    have hrefusal : s.earlyRefusal (i.operandRefusal s.cfg) = some r := (earlyRefusal_opened hsession).trans hr
    have hclose : i.isSessionClose = false := by cases i <;> first | rfl | cases hr
    have hfast : i ≠ .opFastRead := fun hi => by rw [hi] at hr; cases hr
    rcases isCommand_or_isMacro hopen hclose hfast with hi | hmacro
    · exact exec_of_entryStop hi (entryStop_of_checkStop (checkStop_of_refusal hrefusal))
    · exact exec_macro_refused hmacro hrefusal

/-- What is refused for its state when nothing else stops it. -/
theorem exec_of_stateRefusal {i : Instr} {s : State} {r : Reason} (hs : s.Ready) (hi : IsCommand i)
    (hoperand : i.operandRefusal s.cfg = none) (h : stateRefusal i s = some r) :
    exec i s = .next (s.answer (refusedResult r)) := by
  refine exec_of_entryStop hi ?_
  rw [entryStop, hoperand, checkStop_none (earlyRefusal_opened hs.1) hs.2, Option.none_or, h, Option.map_some]

/-- An instruction that needs the family is a command, and it has no operands. -/
theorem isCommand_of_needsFamily {i : Instr} (c : Cfg) (h : i.needsFamily = true) :
    IsCommand i ∧ i.operandRefusal c = none := by
  cases i <;> first | contradiction | exact ⟨⟨rfl, rfl, rfl, nofun⟩, rfl⟩

theorem exec_of_familyRefusal {i : Instr} {s : State} {r : Reason} (hs : s.Ready) (hfamily : i.needsFamily = true)
    (h : s.familyRefusal = some r) : exec i s = .next (s.answer (refusedResult r)) := by
  obtain ⟨hi, hoperand⟩ := isCommand_of_needsFamily s.cfg hfamily
  exact exec_of_stateRefusal hs hi hoperand ((if_pos hfamily).trans h)

/-- Settles O15: the state refusals are the last of the stops of R339. -/
theorem stateRefusals : Obligations.StateRefusals := by
  intro s hs
  refine ⟨fun i hfamily hdev => exec_of_familyRefusal hs hfamily ?_,
    fun i d hfamily hdev hunknown hpolicy => exec_of_familyRefusal hs hfamily ?_, fun n hlen hread => ?_,
    fun data hlen hburst => ?_⟩
  · rw [State.familyRefusal, hdev]
  · simp [State.familyRefusal, hdev, hunknown, hpolicy]
  · have hstate : s.readRefusal .contRead = some .noOpenRead := by simp [State.readRefusal, hread]
    exact exec_of_stateRefusal hs ⟨rfl, rfl, rfl, nofun⟩ (if_pos hlen) hstate
  · have hstate : s.burstRefusal = some .noOpenBurst := by simp [State.burstRefusal, hburst]
    exact exec_of_stateRefusal hs ⟨rfl, rfl, rfl, nofun⟩ (if_pos hlen) hstate

/-- What was answered, where a state's results have grown by one. -/
theorem eq_of_answer_results {s t : State} {x y : Result} (ht : t.results = s.results)
    (h : (t.answer x).results = s.results ++ [y]) : x = y := by
  rw [State.answer_results, ht] at h
  exact List.singleton_inj.mp (List.append_cancel_left h)

theorem execSessionOpen_refused {sel : List Byte} {s s' : State} {r : Reason} (h : execSessionOpen sel s = .next s')
    (hr : s'.results = s.results ++ [refusedResult r]) : s' = s.answer (refusedResult r) := by
  by_cases hlen : sel.length ≤ s.cfg.maxXferBytes
  · cases (execSessionOpen_of_short hlen).symm.trans h
    cases hanswer : s.nextAnswer.ok with
    | true =>
      rw [openSession_of_ok sel hanswer] at hr
      cases eq_of_answer_results (by simp) hr
    | false =>
      rw [openSession_of_failed sel hanswer] at hr
      cases eq_of_answer_results (by simp) hr
  · cases (execSessionOpen_of_long hlen).symm.trans h
    rw [eq_of_answer_results rfl hr]

theorem execSessionClose_refused {s s' : State} {r : Reason} (h : execSessionClose s = .next s')
    (hr : s'.results = s.results ++ [refusedResult r]) : s' = s.answer (refusedResult r) := by
  by_cases hsession : s.session = .closed
  · cases (commit_raised (cmdSessionClose_of_closed hsession)).symm.trans h
    rw [eq_of_answer_results rfl hr]
  · cases (commit_ended (cmdSessionClose_of_open hsession)).symm.trans h
    cases eq_of_answer_results (by simp) hr

/-- A command that answers REFUSED has stopped at its entry: what runs on is not refused any more. -/
theorem exec_refused {i : Instr} {s s' : State} {r : Reason} (hi : IsCommand i) (h : exec i s = .next s')
    (hr : s'.results = s.results ++ [refusedResult r]) : s' = s.answer (refusedResult r) := by
  obtain ⟨b, hupdates, hb, heq⟩ := exec_gated hi
  rw [heq] at h
  have hkeep : (endState (b s)).results = s.results := (hupdates s).keepsPorts.results
  rcases commit_cases b s with ⟨k, d, t, hrun, hc⟩ | ⟨w, t, hrun, hc⟩ | ⟨k, r', t, hrun, hc⟩ | ⟨f, t, -, hc⟩
  all_goals cases hc.symm.trans h
  all_goals rw [hrun] at hkeep
  · cases eq_of_answer_results hkeep hr
    cases hstop : entryStop i s with
    | some e => cases (hb.stops hstop).symm.trans hrun
    | none => exact absurd rfl (hb.good hstop hrun)
  · exact absurd (hkeep.symm.trans hr) (by simp)
  · cases eq_of_answer_results hkeep hr
    cases hstop : entryStop i s with
    | some e =>
      cases (hb.stops hstop).symm.trans hrun
      rfl
    | none => exact absurd hrun (hb.accepted hstop)

/-- Settles O16: a command is refused at its entry only, and the session's two before they do anything. -/
theorem refusalChangesOnlyTheResult : Obligations.RefusalChangesOnlyTheResult := by
  intro i s s' r hmacro h hr
  cases hopen : i.isSessionOpen with
  | true =>
    cases i <;> cases hopen
    exact execSessionOpen_refused h hr
  | false =>
    cases hclose : i.isSessionClose with
    | true =>
      cases i <;> cases hclose
      exact execSessionClose_refused h hr
    | false =>
      have hfast : i ≠ .opFastRead := fun hi => by rw [hi] at h; cases h
      exact exec_refused ⟨hopen, hclose, hmacro, hfast⟩ h hr

end Sys2Proof.Machine
end

section
/-! SUPPORT. The session commands (70_reset_and_hazards.md R371, R372): the whole state after closing the port, and the two
statements. -/

namespace Sys2Proof.Machine

/-! ## Closing the port -/

/-- Closing the port emits `Close` and, where a stay or a burst was open, loses the target (log 27). -/
theorem closePort_eq (s : State) : s.closePort =
    { s with
      trace := s.trace ++ [.closed]
      target := if s.tap = .shiftDr ∨ s.burstOpen = true then none else s.target } := by
  by_cases hmid : s.tap = .shiftDr ∨ s.burstOpen = true
  · rw [State.closePort, if_pos hmid, if_pos hmid]
    rfl
  · rw [State.closePort, if_neg hmid, if_neg hmid]
    rfl

/-- Only an open session is closed, and closing it changes the events and the target (R371). -/
theorem closeIfOpen_eq (s : State) : s.closeIfOpen =
    { s with
      trace := s.trace ++ (if s.session = .opened then [.closed] else [])
      target :=
        if s.session = .opened ∧ (s.tap = .shiftDr ∨ s.burstOpen = true) then none else s.target } := by
  by_cases hopen : s.session = .opened
  · rw [State.closeIfOpen, if_pos hopen, closePort_eq]
    simp only [hopen, if_true, true_and]
  · rw [State.closeIfOpen, if_neg hopen]
    simp only [hopen, if_false, false_and, List.append_nil]

/-! ## `SESSION_OPEN` -/

/-- Settles O8: the port is closed if it was open, and the answer decides between the two ends of R371. -/
theorem sessionOpenResult : Obligations.SessionOpenResult := by
  refine fun s sel => ⟨fun hlong => execSessionOpen_of_long (Nat.not_le.mpr hlong), fun hshort => ?_⟩
  have hexec : exec (.sessionOpen sel) s = .next (s.openSession sel) := execSessionOpen_of_short hshort
  cases hanswer : s.nextAnswer.ok with
  | true =>
    refine ⟨s.nextAnswer.tap, fun _ => rfl, ?_⟩
    rw [hexec, openSession_of_ok sel hanswer, closeIfOpen_eq]
    rfl
  | false =>
    refine ⟨Config.tapDraw (s.drawn + 1), nofun, ?_⟩
    rw [hexec, openSession_of_failed sel hanswer, closeIfOpen_eq]
    rfl

/-! ## `SESSION_CLOSE` -/

/-- Settles O9: the session's own check is the only one (R372). -/
theorem sessionCloseResult : Obligations.SessionCloseResult := by
  refine fun s => ⟨fun hclosed => commit_raised (cmdSessionClose_of_closed hclosed), fun hopen => ?_⟩
  have hnot : s.session ≠ .closed := fun hclosed => by cases hclosed.symm.trans hopen
  refine commit_of_ok (cmdSessionClose_of_open hnot) ?_
  rw [closePort_eq]
  rfl

end Sys2Proof.Machine
end

section
/-! SUPPORT. How every command is built: from looks at the state, raises, the TAP primitives (10_state.md R44 to R48), and
direct writes to named parts of the record. One derivation for each command; what every piece keeps or answers, every command
built of such pieces does, by induction on how it is built. -/

namespace Sys2Proof.Machine

/-! ## Pieces -/

/-- The parts of the record that commands write directly, beside what the TAP primitives do. -/
inductive Part where
  | passthrough | device | stream | frame | mark | counter | phase
  deriving DecidableEq

/-- The direct writes of the commands' rules, by the part they concern. -/
inductive Writes : Part → (State → State) → Prop
  /-- A TAP instruction was loaded (44_config_sequencer.md R260). -/
  | instructionLoaded : Writes .passthrough fun s => { s with pt := false }
  /-- The unlock sequence was sent (R258). -/
  | passthroughEntered : Writes .passthrough fun s => { s with pt := true }
  /-- The device was identified (42_identity_status.md R173). -/
  | deviceRead (info : DeviceInfo) : Writes .device fun s => { s with dev := s.dev <|> some info }
  /-- A burst was opened (44_config_sequencer.md R256). -/
  | burstOpened : Writes .stream fun s => { s with burstOpen := true }
  /-- A streamed read was opened (43_flash_commands.md R216). -/
  | readOpened : Writes .stream fun s => { s with rdOpen := true }
  /-- A streamed read was ended by `SPI_XFER` (41_spi_bridge.md R155). -/
  | readEnded : Writes .stream fun s => { s with rdOpen := false }
  /-- The ghost fields after a flash frame (43_flash_commands.md R223). -/
  | frameSent (n : FlashName) : Writes .frame fun s => s.afterFrame n
  /-- The marks of a flash command's prologue (R200). -/
  | prologueMarked (k : FlashKind) : Writes .mark fun s => s.flashHazards k
  /-- The mark of a status-register write frame (R223). -/
  | writeMarked : Writes .mark fun s => s.writeEnableHazard
  /-- The debounce counter of a busy wait (R218, 10_state.md R52). -/
  | pollCounted (count : Nat) : Writes .counter fun s => { s with rdyCount := count }
  /-- A satisfied poll (43_flash_commands.md R218). -/
  | waitSatisfied : Writes .counter fun s => { s with rdyCount := 0, mustPoll := false }
  /-- A phase of the orchestrator (45_orchestrator.md R280). -/
  | phaseEntered (o : OrchState) : Writes .phase fun s => s.enterPhase o
  /-- The result of a sub-command (10_state.md R53). -/
  | subCommandEnded (kind : ResultKind) (data : ResultData) : Writes .phase fun s => s.setResult ⟨kind, .none, data⟩

/-- A command with a write where it stops. -/
def onStop {α : Type} (g : State → State) (b : Bridge α) : Bridge α := fun s =>
  match b s with
  | .ok a t => .ok a t
  | .error e t => .error e (g t)

/-- A command built of pieces whose direct writes concern the parts in `K` alone. A look at the state sees no ghost field
(10_state.md R30); COMM_FAILURE(TRANSPORT) is raised by the primitives alone (60_exceptions.md R333). -/
inductive Built (K : List Part) : {α : Type} → Bridge α → Prop
  | pure {α : Type} (a : α) : Built K (pure a : Bridge α)
  | assert {α : Type} (f : Fault) : Built K (throw (.assert f) : Bridge α)
  | raise {α : Type} (kind : ResultKind) {r : Reason} (hr : r ≠ .transport) : Built K (raise kind r : Bridge α)
  | look {α : Type} {f : State → Bridge α} (hblind : ∀ s p w m h, f (s.withGhosts p w m h) = f s)
      (hf : ∀ s, Built K (f s)) : Built K (get >>= f)
  | bind {α β : Type} {x : Bridge α} {f : α → Bridge β} (hx : Built K x) (hf : ∀ a, Built K (f a)) : Built K (x >>= f)
  | goTo (dst : TapState) : Built K (tapGoTo dst)
  | shift (tx : List Byte) (n : Nat) (exit : Bool) : Built K (tapShift tx n exit)
  | settle (cycles : Nat) : Built K (tapSettle cycles)
  | delay (t : Nat) : Built K (delay t)
  | write {p : Part} {g : State → State} (hp : p ∈ K) (hg : Writes p g) : Built K (modify g : Bridge Unit)
  | stop {α : Type} {p : Part} {g : State → State} {x : Bridge α} (hp : p ∈ K) (hg : Writes p g) (hx : Built K x) :
      Built K (onStop g x)

section
variable {K : List Part} {α : Type}

theorem Built.mono {K' : List Part} {b : Bridge α} (h : Built K b) (hK : K ⊆ K') : Built K' b := by
  induction h with
  | pure a => exact .pure a
  | assert f => exact .assert f
  | raise kind hr => exact .raise kind hr
  | look hblind _ ih => exact .look hblind ih
  | bind _ _ ihx ihf => exact .bind ihx ihf
  | goTo dst => exact .goTo dst
  | shift tx n exit => exact .shift tx n exit
  | settle cycles => exact .settle cycles
  | delay t => exact .delay t
  | write hp hg => exact .write (hK hp) hg
  | stop hp hg _ ih => exact .stop (hK hp) hg ih

theorem Built.ite {p : Prop} [Decidable p] {x y : Bridge α} (hx : Built K x) (hy : Built K y) :
    Built K (if p then x else y) := by
  split
  · exact hx
  · exact hy

theorem built_refuse {r : Reason} (hr : r ≠ .transport) : Built K (refuse r : Bridge α) := .raise _ hr

theorem built_done (d : ResultData) : Built K (done d) := .pure _

/-! ## Checks and small parts -/

theorem built_require (b : Bool) {r : Reason} (hr : r ≠ .transport) : Built K (require b r) :=
  .ite (.pure ()) (built_refuse hr)

theorem built_checkSession : Built K checkSession :=
  .look (fun _ _ _ _ _ => rfl) fun _ => .ite (built_refuse (by decide)) (.pure ())

theorem built_checks (lenOk : Bool) : Built K (checks lenOk) :=
  built_checkSession.bind fun _ => (built_require lenOk (by decide)).bind fun _ =>
    .look (fun _ _ _ _ _ => rfl) fun _ => .ite (.raise _ (by decide)) (.pure ())

theorem built_macroChecks (optionsOk rangeOk lengthOk : Bool) : Built K (macroChecks optionsOk rangeOk lengthOk) :=
  built_checkSession.bind fun _ => (built_require _ (by decide)).bind fun _ => (built_require _ (by decide)).bind fun _ =>
    built_require _ (by decide)

theorem built_cfgFamily : Built K cfgFamily := by
  refine .look (fun _ _ _ _ _ => rfl) fun s => ?_
  cases s.dev with
  | none => exact built_refuse (by decide)
  | some d =>
    refine .ite ?_ (.pure _)
    cases s.cfg.unknownPolicy with
    | refuse => exact built_refuse (by decide)
    | treatAsA => exact .pure _

theorem built_irLoad (hK : .passthrough ∈ K) (code : Byte) (len : Nat) : Built K (irLoad code len) :=
  (Built.goTo _).bind fun _ => (Built.shift _ _ _).bind fun _ => .write hK .instructionLoaded

theorem built_drRead (bits : Nat) : Built K (drRead bits) := (Built.goTo _).bind fun _ => .shift _ _ _

theorem built_sendParam (p : Option Byte) : Built K (sendParam p) := by
  cases p with
  | none => exact .pure ()
  | some b => exact (Built.goTo _).bind fun _ => (Built.shift _ _ _).bind fun _ => .pure ()

theorem built_transactSPI (frame : List Byte) : Built K (transactSPI frame) := by
  have hshift : Built K (do
      let raw ← tapShift (revBuf frame) (8 * frame.length) true
      return revBuf raw) := (Built.shift _ _ _).bind fun _ => .pure _
  have htap : Built K tapState := .look (fun _ _ _ _ _ => rfl) fun _ => .pure _
  exact (Built.ite (.assert _) (.pure ())).bind fun _ => htap.bind fun _ => .ite ((Built.goTo _).bind fun _ => hshift) hshift

theorem built_streamSPI (frame : List Byte) : Built K (streamSPI frame) :=
  (Built.ite (.assert _) (.pure ())).bind fun _ => (Built.goTo _).bind fun _ => (Built.shift _ _ _).bind fun _ => .pure _

theorem built_flashPrologue (hK : .mark ∈ K) (k : FlashKind) (lenOk : Bool) : Built K (flashPrologue k lenOk) :=
  (built_checks lenOk).bind fun _ => .look (fun _ _ _ _ _ => rfl) fun _ => (built_require _ (by decide)).bind fun _ =>
    .write hK (.prologueMarked k)

theorem built_sendFrame (hK : .frame ∈ K) (n : FlashName) (operands : List Byte) : Built K (sendFrame n operands) :=
  .look (fun _ _ _ _ _ => rfl) fun _ => (built_transactSPI _).bind fun _ =>
    (Built.write hK (.frameSent n)).bind fun _ => .pure _

theorem built_sendHeader (n : FlashName) (a : Addr) : Built K (sendHeader n a) :=
  .look (fun _ _ _ _ _ => rfl) fun _ => (built_streamSPI _).bind fun _ => .pure ()

theorem built_sendRegisterWrite (hM : .mark ∈ K) (hF : .frame ∈ K) (n : FlashName) (v : Byte) :
    Built K (sendRegisterWrite n v) :=
  (Built.write hM .writeMarked).bind fun _ => (built_sendFrame hF n _).bind fun _ => .pure ()

theorem built_sendPage (hK : .frame ∈ K) (a : Addr) (data : List Byte) : Built K (sendPage a data) :=
  (built_sendHeader _ _).bind fun _ => (built_transactSPI _).bind fun _ => .write hK (.frameSent .pp)

theorem built_sendRdid (hK : .frame ∈ K) : Built K sendRdid :=
  .look (fun _ _ _ _ _ => rfl) fun _ => (built_sendFrame hK _ _).bind fun _ => .pure _

theorem built_openRead (hK : .stream ∈ K) (a : Addr) : Built K (openRead a) :=
  (built_sendHeader _ _).bind fun _ => .write hK .readOpened

/-! ## The busy wait -/

/-- A poll as a sequence: the frame, whose failure resets the counter (10_state.md R52), and then the debounce
(43_flash_commands.md R218). -/
theorem waitPoll_eq (polls : Nat) :
    waitPoll polls = (onStop (fun s => { s with rdyCount := 0 }) (sendFrame .rdsr1 [0x00]) >>= fun rx =>
      (get >>= fun s =>
        if debounce s.rdyCount (!(registerByte rx).getLsbD s.cfg.busyBit) = s.cfg.readyDebounce then
          (modify fun s => { s with rdyCount := 0, mustPoll := false }) >>= fun _ => pure (.satisfied (polls + 1))
        else
          (modify fun u => { u with rdyCount := debounce s.rdyCount (!(registerByte rx).getLsbD s.cfg.busyBit) }) >>=
            fun _ => delay s.cfg.pollDelay >>= fun _ => pure (.unsatisfied (polls + 1)))) := by
  funext s
  rw [bind_run, onStop]
  cases h : sendFrame .rdsr1 [0x00] s with
  | error e u => exact waitPoll_failed polls h
  | ok rx u =>
    simp only [bind_run, get_run, ite_run, modify_run, pure_run, delay_run]
    split
    · exact waitPoll_satisfied polls h ‹_›
    · exact waitPoll_unsatisfied polls h ‹_›

theorem built_waitPoll (hF : .frame ∈ K) (hC : .counter ∈ K) (polls : Nat) : Built K (waitPoll polls) := by
  rw [waitPoll_eq]
  refine (Built.stop hC (.pollCounted 0) (built_sendFrame hF _ _)).bind fun rx => .look (fun _ _ _ _ _ => rfl) fun s => ?_
  exact .ite ((Built.write hC .waitSatisfied).bind fun _ => .pure _)
    ((Built.write hC (.pollCounted _)).bind fun _ => (Built.delay _).bind fun _ => .pure _)

theorem built_afterWait (hF : .frame ∈ K) (cmd : WaitCmd) (polls : Nat) : Built K (afterWait cmd polls) := by
  cases cmd with
  | wait => exact built_done _
  | unprotect => exact (built_sendFrame hF _ _).bind fun _ => built_done _

theorem built_waitRound (hF : .frame ∈ K) (hC : .counter ∈ K) (cmd : WaitCmd) (polls : Nat) :
    Built K (waitRound cmd polls) := by
  refine (built_waitPoll hF hC polls).bind fun p => ?_
  cases p with
  | satisfied n => exact built_afterWait hF cmd n
  | unsatisfied n => exact .pure _

theorem built_startWait (hF : .frame ∈ K) (hC : .counter ∈ K) (cmd : WaitCmd) : Built K (startWait cmd) :=
  (Built.write hC (.pollCounted 0)).bind fun _ => built_waitRound hF hC cmd 0

end

/-! ## Commands -/

/-- What a command that does not wait writes directly. -/
abbrev commandParts : List Part := [.passthrough, .device, .stream, .frame, .mark]

/-- What a sub-command writes directly: the two that wait count their polls (43_flash_commands.md R218, R220). -/
def partsOf : Instr → List Part
  | .fWait | .fUnprotect => .counter :: commandParts
  | _ => commandParts

section
variable {K : List Part}

/-- A flash command: its prologue, a part of its own, and its result. -/
theorem built_flash {α : Type} (hM : .mark ∈ K) (k : FlashKind) (lenOk : Bool) {x : Bridge α} (hx : Built K x)
    (d : α → ResultData) : Built K (do
      flashPrologue k lenOk
      let a ← x
      done (d a)) :=
  (built_flashPrologue hM k lenOk).bind fun _ => hx.bind fun _ => built_done _

/-- A bare frame: the checks, a part of its own, and its result. -/
theorem built_row {α : Type} (lenOk : Bool) {x : Bridge α} (hx : Built K x) (d : α → ResultData) : Built K (do
      checks lenOk
      let a ← x
      done (d a)) :=
  (built_checks lenOk).bind fun _ => hx.bind fun _ => built_done _

/-- A command that needs the family. -/
theorem built_family {f : Family → Bridge Flow} (hf : ∀ a, Built K (f a)) :
    Built K (checks true >>= fun _ => cfgFamily >>= f) :=
  (built_checks true).bind fun _ => built_cfgFamily.bind hf

theorem built_simpleCfg (hP : .passthrough ∈ K) (n : IrName) : Built K (simpleCfg n) :=
  built_family fun _ => .look (fun _ _ _ _ _ => rfl) fun _ => (built_irLoad hP _ _).bind fun _ =>
    (built_sendParam _).bind fun _ => (Built.goTo _).bind fun _ => (Built.settle _).bind fun _ => built_done _

theorem built_eraseFrames (hM : .mark ∈ K) (hF : .frame ∈ K) (n : FlashName) (operands : List Byte) :
    Built K (eraseFrames n operands) :=
  (built_flashPrologue hM _ _).bind fun _ => (built_sendFrame hF _ _).bind fun _ => (built_sendFrame hF _ _).bind fun _ =>
    built_done _

theorem built_irRow (hP : .passthrough ∈ K) (n : IrName) : Built K (irRow n) :=
  built_family fun _ => .look (fun _ _ _ _ _ => rfl) fun _ => (built_irLoad hP _ _).bind fun _ => built_done _

end

section
variable {K : List Part}

theorem built_cmdReadIdcode (hP : .passthrough ∈ K) (hD : .device ∈ K) : Built K cmdReadIdcode :=
  (built_checks true).bind fun _ => .look (fun _ _ _ _ _ => rfl) fun _ => (built_irLoad hP _ _).bind fun _ =>
    (built_drRead _).bind fun _ => (Built.write hD (.deviceRead _)).bind fun _ => built_done _

theorem built_cmdReadStatus (hP : .passthrough ∈ K) : Built K cmdReadStatus :=
  built_family fun _ => .look (fun _ _ _ _ _ => rfl) fun _ => (built_irLoad hP _ _).bind fun _ =>
    (built_drRead _).bind fun _ => built_done _

theorem built_cmdCBurst (hP : .passthrough ∈ K) (hS : .stream ∈ K) : Built K cmdCBurst :=
  built_family fun _ => .look (fun _ _ _ _ _ => rfl) fun _ => (built_irLoad hP _ _).bind fun _ => (Built.goTo _).bind fun _ =>
    (Built.write hS .burstOpened).bind fun _ => built_done _

theorem built_cmdCBurstData (data : List Byte) : Built K (cmdCBurstData data) :=
  .look (fun _ _ _ _ _ => rfl) fun _ => (built_checks _).bind fun _ => .look (fun _ _ _ _ _ => rfl) fun _ =>
    (built_require _ (by decide)).bind fun _ => (Built.goTo _).bind fun _ => (Built.shift _ _ _).bind fun _ =>
      built_done _

theorem built_cmdCPassthrough (hP : .passthrough ∈ K) : Built K cmdCPassthrough :=
  built_family fun _ => .look (fun _ _ _ _ _ => rfl) fun _ => (built_irLoad hP _ _).bind fun _ => (Built.goTo _).bind fun _ =>
    (Built.shift _ _ _).bind fun _ => (Built.goTo _).bind fun _ => (Built.write hP .passthroughEntered).bind fun _ =>
      built_done _

theorem built_cmdSpiEnd : Built K cmdSpiEnd :=
  (built_checks _).bind fun _ => (Built.goTo _).bind fun _ => built_done _

end

/-- Every sub-command that does not wait is built of pieces that write a command's parts. -/
theorem built_command {i : Instr} (hwait : i ≠ .fWait) (hunprotect : i ≠ .fUnprotect) :
    Built commandParts (subCommand i) := by
  cases i with
  | spiXfer data =>
    exact .look (fun _ _ _ _ _ => rfl) fun _ => (built_checks _).bind fun _ => (built_transactSPI _).bind fun _ =>
      (Built.write (p := .stream) (by decide) .readEnded).bind fun _ => built_done _
  | spiStream data => exact .look (fun _ _ _ _ _ => rfl) fun _ => built_row _ (built_streamSPI _) .bytes
  | spiEnd => exact built_cmdSpiEnd
  | readIdcode => exact built_cmdReadIdcode (by decide) (by decide)
  | readStatus => exact built_cmdReadStatus (by decide)
  | fWren | fWrdi => exact built_flash (by decide) _ _ (built_sendFrame (by decide) _ _) fun _ => .none
  | fRdsr1 | fRdsr2 | fRdsr3 =>
    exact built_flash (by decide) _ _ (built_sendFrame (by decide) _ _) fun rx => .byte (registerByte rx)
  | fWrsr1 v | fWrsr2 v | fWrsr3 v =>
    exact built_flash (by decide) _ _ (built_sendRegisterWrite (by decide) (by decide) _ v) fun _ => .none
  | fCe | fSe4k a | fBe32k a | fBe64k a => exact built_eraseFrames (by decide) (by decide) _ _
  | fPp a data =>
    exact .look (fun _ _ _ _ _ => rfl) fun _ => (built_flashPrologue (by decide) _ _).bind fun _ =>
      (built_sendFrame (by decide) _ _).bind fun _ => (built_sendPage (by decide) _ _).bind fun _ => built_done _
  | fRdid => exact built_flash (by decide) _ _ (built_sendRdid (by decide)) .bytes
  | fRead a => exact built_flash (by decide) _ _ (built_openRead (by decide) a) fun _ => .none
  | fContRead n =>
    exact .look (fun _ _ _ _ _ => rfl) fun _ => built_flash (by decide) _ _ (built_streamSPI _) .bytes
  | fWait | fUnprotect => contradiction
  | fReset =>
    exact (built_flashPrologue (by decide) _ _).bind fun _ => .look (fun _ _ _ _ _ => rfl) fun _ =>
      (built_transactSPI _).bind fun _ => built_done _
  | cEnable | cErase | cDisable | cResetCrc | cRefresh => exact built_simpleCfg (by decide) _
  | cBurst => exact built_cmdCBurst (by decide) (by decide)
  | cBurstData data => exact built_cmdCBurstData data
  | cPassthrough => exact built_cmdCPassthrough (by decide)
  | _ => exact .assert _

/-- Every sub-command is built of pieces that write its parts. -/
theorem built_subCommand (i : Instr) : Built (partsOf i) (subCommand i) := by
  by_cases hwait : i = .fWait
  · subst hwait
    exact (built_flashPrologue (by decide) _ _).bind fun _ => built_startWait (by decide) (by decide) _
  by_cases hunprotect : i = .fUnprotect
  · subst hunprotect
    exact (built_flashPrologue (by decide) _ _).bind fun _ => (built_sendRegisterWrite (by decide) (by decide) _ _).bind
      fun _ => built_startWait (by decide) (by decide) _
  have hparts : partsOf i = commandParts := by
    cases i <;> first | rfl | contradiction
  rw [hparts]
  exact built_command hwait hunprotect

/-! ## Commands that do not wait -/

/-- A command that, where it does not stop, ends with OK: it does not wait. -/
def Ends (b : Bridge Flow) : Prop := ∀ s f t, b s = .ok f t → ∃ d, f = .ended .ok d

theorem Ends.bind {α : Type} {x : Bridge α} {f : α → Bridge Flow} (hf : ∀ a, Ends (f a)) : Ends (x >>= f) := by
  intro s r t hrun
  obtain ⟨a, u, -, hrest⟩ := bind_eq_ok.mp hrun
  exact hf a u r t hrest

theorem ends_done (d : ResultData) : Ends (done d) := by
  intro s f t h
  cases h
  exact ⟨_, rfl⟩

theorem ends_throw (e : Stop) : Ends (throw e) := fun _ _ _ h => nomatch h

/-- A part of a command before its result. -/
theorem ends_part {α : Type} (x : Bridge α) (d : α → ResultData) : Ends (x >>= fun a => done (d a)) :=
  .bind fun _ => ends_done _

theorem ends_cmdReadStatus : Ends cmdReadStatus :=
  .bind fun _ => .bind fun _ => .bind fun _ => .bind fun _ => ends_part _ _

theorem ends_simpleCfg (n : IrName) : Ends (simpleCfg n) :=
  .bind fun _ => .bind fun _ => .bind fun _ => .bind fun _ => .bind fun _ => .bind fun _ => ends_part _ fun _ => .none

/-- Every sub-command but the two that poll (43_flash_commands.md R218, R220). -/
theorem ends_command {i : Instr} (hwait : i ≠ .fWait) (hunprotect : i ≠ .fUnprotect) : Ends (subCommand i) := by
  cases i with
  | spiXfer data => exact .bind fun _ => .bind fun _ => .bind fun _ => ends_part _ fun _ => .bytes _
  | spiStream data => exact .bind fun _ => .bind fun _ => ends_part _ .bytes
  | spiEnd => exact .bind fun _ => ends_part _ fun _ => .none
  | readIdcode => exact .bind fun _ => .bind fun _ => .bind fun _ => .bind fun _ => ends_part _ fun _ => .device _
  | readStatus => exact ends_cmdReadStatus
  | fWren | fWrdi | fWrsr1 v | fWrsr2 v | fWrsr3 v | fRead a => exact .bind fun _ => ends_part _ fun _ => .none
  | fRdsr1 | fRdsr2 | fRdsr3 => exact .bind fun _ => ends_part _ fun rx => .byte (registerByte rx)
  | fCe | fSe4k a | fBe32k a | fBe64k a => exact .bind fun _ => .bind fun _ => ends_part _ fun _ => .none
  | fPp a data => exact .bind fun _ => .bind fun _ => .bind fun _ => ends_part _ fun _ => .none
  | fRdid => exact .bind fun _ => ends_part _ .bytes
  | fContRead n => exact .bind fun _ => .bind fun _ => ends_part _ .bytes
  | fWait | fUnprotect => contradiction
  | fReset => exact .bind fun _ => .bind fun _ => ends_part _ fun _ => .none
  | cEnable | cErase | cDisable | cResetCrc | cRefresh => exact ends_simpleCfg _
  | cBurst => exact .bind fun _ => .bind fun _ => .bind fun _ => .bind fun _ => .bind fun _ => ends_part _ fun _ => .none
  | cBurstData data =>
    exact .bind fun _ => .bind fun _ => .bind fun _ => .bind fun _ => .bind fun _ => ends_part _ fun _ => .none
  | cPassthrough =>
    exact .bind fun _ => .bind fun _ => .bind fun _ => .bind fun _ => .bind fun _ => .bind fun _ => .bind fun _ =>
      ends_part _ fun _ => .none
  | _ => exact ends_throw _

/-- Every bare frame is built of pieces that write what a command writes, and does not wait (log 10). -/
theorem exec_eq_commit_row {i : Instr} (hsub : i.isSubCommand = false) (hopen : i.isSessionOpen = false)
    (hclose : i.isSessionClose = false) (hmacro : i.isMacro = false) (hfast : i ≠ .opFastRead) :
    ∃ b, Built commandParts b ∧ Ends b ∧ MakesUpdates b ∧ exec i = commit b := by
  cases i with
  | opWren | opWrdi | opCe | opSe4k a | opBe32k a | opBe64k a =>
    exact ⟨_, built_row true (built_sendFrame (by decide) _ _) fun _ => .none, .bind fun _ => ends_part _ _,
      frameRow_updates _ _, rfl⟩
  | opRdsr1 | opRdsr2 | opRdsr3 =>
    exact ⟨_, built_row true (built_sendFrame (by decide) _ _) fun rx => .byte (registerByte rx),
      .bind fun _ => ends_part _ _, readRow_updates _, rfl⟩
  | opWrsr1 v | opWrsr2 v | opWrsr3 v =>
    exact ⟨_, built_row true (built_sendRegisterWrite (by decide) (by decide) _ v) fun _ => .none,
      .bind fun _ => ends_part _ _, writeRow_updates _ v, rfl⟩
  | opPp a data =>
    exact ⟨cmdOpPp a data, .look (fun _ _ _ _ _ => rfl) fun _ => built_row _ (built_sendPage (by decide) a data)
      fun _ => .none, .bind fun _ => .bind fun _ => ends_part _ fun _ => .none, cmdOpPp_updates a data, rfl⟩
  | opRdid =>
    exact ⟨_, built_row true (built_sendRdid (by decide)) .bytes, .bind fun _ => ends_part _ _, cmdOpRdid_updates, rfl⟩
  | opRead a count =>
    refine ⟨cmdOpRead a count, .look (fun _ _ _ _ _ => rfl) fun _ => (built_checks _).bind fun _ =>
      (built_openRead (by decide) a).bind fun _ => .ite (built_done _) ((built_streamSPI _).bind fun _ => built_done _),
      .bind fun _ => .bind fun _ => .bind fun _ => ?_, cmdOpRead_updates a count, rfl⟩
    split
    · exact ends_done _
    · exact ends_part _ .bytes
  | irIdcode =>
    exact ⟨cmdIrIdcode, (built_checks _).bind fun _ => .look (fun _ _ _ _ _ => rfl) fun _ =>
      (built_irLoad (by decide) _ _).bind fun _ => built_done _, .bind fun _ => .bind fun _ => ends_part _ fun _ => .none,
      cmdIrIdcode_updates, rfl⟩
  | irStatus | irEnable | irErase | irDisable | irResetCrc | irBurst | irRefresh | irPassthrough =>
    exact ⟨_, built_irRow (by decide) _, .bind fun _ => .bind fun _ => .bind fun _ => ends_part _ fun _ => .none,
      irRow_updates _, rfl⟩
  | _ => contradiction

/-! ## Macros -/

/-- Everything a macro writes directly. -/
abbrev macroParts : List Part := [.passthrough, .device, .stream, .frame, .mark, .counter, .phase]

theorem partsOf_subset (i : Instr) : partsOf i ⊆ macroParts := by
  unfold partsOf
  split <;> decide

theorem built_enterPhase (o : OrchState) : Built macroParts (enterPhase o) := .write (p := .phase) (by decide) (.phaseEntered o)

theorem idleOnStop_eq (b : Bridge Flow) : idleOnStop b = onStop (·.enterPhase .idle) b := by
  funext s
  unfold idleOnStop onStop
  cases b s <;> rfl

theorem Built.idleOnStop {b : Bridge Flow} (h : Built macroParts b) : Built macroParts (idleOnStop b) := by
  rw [idleOnStop_eq]
  exact .stop (p := .phase) (by decide) (.phaseEntered .idle) h

theorem built_finishMacro (k : MacroKind) (n : Notes) : Built macroParts (finishMacro k n) :=
  (built_enterPhase _).bind fun _ => .look (fun _ _ _ _ _ => rfl) fun _ => (built_enterPhase _).bind fun _ => .pure _

/-- A sub-command in an expansion is that command, and the expansion goes on with how it leaves off (45_orchestrator.md
R280). -/
theorem runPlan_sub (k : MacroKind) (i : Instr) (keep : Keep) (rest : List PlanItem) (n : Notes) :
    runPlan k (.sub i keep :: rest) n = subCommand i >>= continueMacro ⟨k, keep, rest, n⟩ := by
  rw [runPlan]
  refine congrArg (subCommand i >>= ·) (funext fun r => ?_)
  cases r <;> rfl

theorem runPlan_statusIfKnown (k : MacroKind) (rest : List PlanItem) (n : Notes) :
    runPlan k (.statusIfKnown :: rest) n = get >>= fun s =>
      if statusWanted s n then cmdReadStatus >>= continueMacro ⟨k, .status, rest, n⟩ else runPlan k rest n := by
  rw [runPlan]
  refine congrArg (get >>= ·) (funext fun s => ?_)
  split
  · refine congrArg (cmdReadStatus >>= ·) (funext fun r => ?_)
    cases r <;> rfl
  · rfl

theorem runPlan_enter (k : MacroKind) (o : OrchState) (rest : List PlanItem) (n : Notes) :
    runPlan k (.enter o :: rest) n = enterPhase o >>= fun _ => runPlan k rest n := by rw [runPlan]

theorem built_continueMacro {e : Expansion} (h : ∀ n, Built macroParts (runPlan e.kind e.rest n)) (r : Flow) :
    Built macroParts (continueMacro e r) := by
  cases r with
  | waiting t => exact .pure _
  | ended kind d => exact (Built.write (p := .phase) (by decide) (.subCommandEnded kind d)).bind fun _ => h _

theorem built_runPlan (k : MacroKind) (items : List PlanItem) : ∀ n, Built macroParts (runPlan k items n) := by
  induction items with
  | nil => exact built_finishMacro k
  | cons item rest ih =>
    intro n
    cases item with
    | enter o =>
      rw [runPlan_enter]
      exact (built_enterPhase o).bind fun _ => ih n
    | sub i keep =>
      rw [runPlan_sub]
      exact ((built_subCommand i).mono (partsOf_subset i)).bind (built_continueMacro ih)
    | statusIfKnown =>
      rw [runPlan_statusIfKnown]
      exact .look (fun _ _ _ _ _ => rfl) fun s =>
        .ite ((built_cmdReadStatus (by decide)).bind (built_continueMacro ih)) (ih n)

theorem built_runMacro (k : MacroKind) (items : List PlanItem) : Built macroParts (runMacro k items) :=
  (built_runPlan k items {}).idleOnStop

/-- A command in progress that goes on. -/
theorem built_resumeTask (t : Task) : Built macroParts (resumeTask t) := by
  obtain ⟨polls, cmd, outer⟩ := t
  cases outer with
  | none => exact built_waitRound (by decide) (by decide) cmd polls
  | some e =>
    exact ((built_waitRound (by decide) (by decide) cmd polls).bind
      (built_continueMacro (built_runPlan e.kind e.rest))).idleOnStop

/-- A macro that passes its validation runs its expansion (45_orchestrator.md R281). -/
theorem exec_macro_run {i : Instr} {s : State} {k : MacroKind} {items : List PlanItem}
    (h : i.expansion s.cfg = some (k, items)) (hr : s.earlyRefusal (i.operandRefusal s.cfg) = none) :
    exec i s = commit (runMacro k items) s := by
  have hpass : ∀ {x : Bridge Unit} {f : Unit → Bridge Flow},
      x s = (s.earlyRefusal (i.operandRefusal s.cfg)).elim (.ok () s) (fun r => .error (.raise .refused r) s) →
      f () s = runMacro k items s → commit (x >>= f) s = commit (runMacro k items) s := fun hx hf => by
    rw [hr, Option.elim_none] at hx
    exact commit_congr (bind_trans hx hf)
  cases i with
  | mIdentify => cases h; exact hpass (macroChecks_run s rfl) rfl
  | mProbe opts => cases h; exact hpass (macroChecks_run s (macroRefusal_options _)) rfl
  | mLoadSram data opts => cases h; exact hpass (macroChecks_run s (macroRefusal_options _)) rfl
  | mProgram offset gran data opts =>
    cases h; exact hpass (macroChecks_run s (macroRefusal_ranged Bool.and_eq_true_iff macroLenOk_of_rangeOk)) rfl
  | mRead offset len opts => cases h; exact hpass (macroChecks_run s (macroRefusal_ranged Iff.rfl macroLenOk_of_rangeOk)) rfl
  | mErase offset len gran opts =>
    cases h; exact hpass (macroChecks_run s (macroRefusal_ranged Bool.and_eq_true_iff macroLenOk_of_rangeOk)) rfl
  | mVerify offset data opts =>
    cases h; exact hpass (macroChecks_run s (macroRefusal_ranged Iff.rfl macroLenOk_of_rangeOk)) rfl
  | _ => cases h

/-- The macros are the instructions with an expansion (30_encoding.md R116). -/
theorem exists_expansion {i : Instr} (h : i.isMacro = true) (c : Cfg) : ∃ k items, i.expansion c = some (k, items) := by
  cases i <;> first | exact ⟨_, _, rfl⟩ | contradiction

/-! ## Instructions -/

/-- Every instruction but the two of the session and the row that is never sent (43_flash_commands.md R222) is built of
pieces, and its end is answered. -/
theorem exec_eq_commit_built {i : Instr} (hopen : i.isSessionOpen = false) (hclose : i.isSessionClose = false)
    (hfast : i ≠ .opFastRead) : ∃ b, Built macroParts b ∧ exec i = commit b := by
  by_cases hsub : i.isSubCommand = true
  · exact ⟨_, (built_subCommand i).mono (partsOf_subset i), exec_eq_commit_subCommand hsub⟩
  have hsub : i.isSubCommand = false := by simpa using hsub
  cases hmacro : i.isMacro with
  | false =>
    obtain ⟨b, hb, -, -, heq⟩ := exec_eq_commit_row hsub hopen hclose hmacro hfast
    exact ⟨b, hb.mono (by decide), heq⟩
  | true =>
    cases i with
    | mIdentify => exact ⟨cmdMIdentify, (built_macroChecks _ _ _).bind fun _ => built_runMacro _ _, rfl⟩
    | mProbe opts => exact ⟨cmdMProbe opts, (built_macroChecks _ _ _).bind fun _ => built_runMacro _ _, rfl⟩
    | mLoadSram data opts =>
      exact ⟨cmdMLoadSram data opts, (built_macroChecks _ _ _).bind fun _ => .look (fun _ _ _ _ _ => rfl) fun _ =>
        built_runMacro _ _, rfl⟩
    | mProgram offset gran data opts =>
      exact ⟨cmdMProgram offset gran data opts, (built_macroChecks _ _ _).bind fun _ => .look (fun _ _ _ _ _ => rfl)
        fun _ => built_runMacro _ _, rfl⟩
    | mRead offset len opts =>
      exact ⟨cmdMRead offset len opts, (built_macroChecks _ _ _).bind fun _ => .look (fun _ _ _ _ _ => rfl) fun _ =>
        built_runMacro _ _, rfl⟩
    | mErase offset len gran opts =>
      exact ⟨cmdMErase offset len gran opts, (built_macroChecks _ _ _).bind fun _ => .look (fun _ _ _ _ _ => rfl)
        fun _ => built_runMacro _ _, rfl⟩
    | mVerify offset data opts =>
      exact ⟨cmdMVerify offset data opts, (built_macroChecks _ _ _).bind fun _ => .look (fun _ _ _ _ _ => rfl) fun _ =>
        built_runMacro _ _, rfl⟩
    | _ => contradiction

end Sys2Proof.Machine
end

section
/-! SUPPORT. What every command keeps or answers, by how it is built: the parts of the record it does not write, and the sticky
error (10_state.md R31, 60_exceptions.md R333), with its statement. -/

namespace Sys2Proof.Machine

/-! ## What is not written is kept -/

/-- What a TAP primitive and a delay may change (10_state.md R44 to R48); whether a reference target is known stays. -/
def Transfers (s t : State) : Prop :=
  ∃ err tap rdOpen burstOpen trace script drawn target, target.isSome = s.target.isSome ∧
    t = { s with err := err, tap := tap, rdOpen := rdOpen, burstOpen := burstOpen, trace := trace, script := script,
                 drawn := drawn, target := target }

theorem Transfers.refl (s : State) : Transfers s s := ⟨_, _, _, _, _, _, _, _, rfl, rfl⟩

theorem tapGoTo_transfers (dst : TapState) (s : State) : Transfers s (endState (tapGoTo dst s)) := by
  rcases tapGoTo_cases dst s with ⟨-, h⟩ | ⟨-, -, h⟩ | ⟨-, -, -, h⟩ | ⟨-, -, -, h⟩ <;> rw [h]
  · exact .refl s
  · exact .refl s
  · exact ⟨_, _, _, _, _, _, _, _, Option.isSome_map, rfl⟩
  · exact ⟨_, _, _, _, _, _, _, _, rfl, rfl⟩

theorem tapShift_transfers (tx : List Byte) (n : Nat) (exit : Bool) (s : State) :
    Transfers s (endState (tapShift tx n exit s)) := by
  rcases tapShift_cases tx n exit s with ⟨-, h⟩ | ⟨-, -, h⟩ | ⟨-, -, -, h⟩ | ⟨reg, -, -, -, -, h⟩ |
    ⟨reg, -, -, -, -, h⟩ <;> rw [h]
  · exact .refl s
  · exact .refl s
  · exact .refl s
  · cases exit
    · exact ⟨_, _, _, _, _, _, _, _, Option.isSome_map, rfl⟩
    · cases reg <;> exact ⟨_, _, _, _, _, _, _, _, Option.isSome_map, rfl⟩
  · exact ⟨_, _, _, _, _, _, _, _, rfl, rfl⟩

theorem tapSettle_transfers (cycles : Nat) (s : State) : Transfers s (endState (tapSettle cycles s)) := by
  rcases tapSettle_cases cycles s with ⟨-, h⟩ | ⟨-, -, h⟩ | ⟨-, -, -, h⟩ | ⟨-, -, -, h⟩ <;> rw [h]
  · exact .refl s
  · exact .refl s
  · exact ⟨_, _, _, _, _, _, _, _, rfl, rfl⟩
  · exact ⟨_, _, _, _, _, _, _, _, rfl, rfl⟩

/-- What the primitives and a command's writes maintain, the command maintains. -/
theorem Built.maintains {α : Type} {K : List Part} {b : Bridge α} (h : Built K b) {P : State → Prop}
    (htransfer : ∀ s t, Transfers s t → P s → P t) (hwrite : ∀ p ∈ K, ∀ g, Writes p g → ∀ s, P s → P (g s)) :
    ∀ s, P s → P (endState (b s)) := by
  induction h with
  | pure | assert | raise => exact fun _ hs => hs
  | look _ _ ih => exact fun s => ih s s
  | bind _ _ ihx ihf =>
    intro s hs
    have hx := ihx s hs
    rw [bind_run]
    split
    next a t hrun =>
      rw [hrun] at hx
      exact ihf a t hx
    next e t hrun =>
      rw [hrun] at hx
      exact hx
  | goTo dst => exact fun s => htransfer _ _ (tapGoTo_transfers dst s)
  | shift tx n exit => exact fun s => htransfer _ _ (tapShift_transfers tx n exit s)
  | settle cycles => exact fun s => htransfer _ _ (tapSettle_transfers cycles s)
  | delay t => exact fun s => htransfer s _ ⟨_, _, _, _, _, _, _, _, rfl, rfl⟩
  | write hp hg => exact fun s => hwrite _ hp _ hg s
  | stop hp hg _ ih =>
    intro s hs
    have hx := ih s hs
    unfold onStop
    split
    next a t hrun =>
      rw [hrun] at hx
      exact hx
    next e t hrun =>
      rw [hrun] at hx
      exact hwrite _ hp _ hg t hx

/-- What neither the primitives nor a command's writes change, the command does not change. -/
theorem Built.keeps {α β : Type} {K : List Part} {b : Bridge α} (h : Built K b) (F : State → β)
    (htransfer : ∀ s t, Transfers s t → F t = F s) (hwrite : ∀ p ∈ K, ∀ g, Writes p g → ∀ s, F (g s) = F s) (s : State) :
    F (endState (b s)) = F s :=
  h.maintains (P := fun t => F t = F s) (fun _ _ ht h => (htransfer _ _ ht).trans h)
    (fun p hp g hg t h => (hwrite p hp g hg t).trans h) s rfl

section
variable {α : Type} {K : List Part} {b : Bridge α}

theorem Built.results (h : Built K b) (s : State) : (endState (b s)).results = s.results := by
  refine h.keeps State.results ?_ ?_ s
  · rintro s t ⟨_, _, _, _, _, _, _, _, -, rfl⟩; rfl
  · intro p _ g hg s
    cases hg <;> simp [State.enterPhase]

/-! ## The sticky error -/

/-- How a command ends that finds the sticky error clear: it sets it exactly where it raises COMM_FAILURE(TRANSPORT). -/
def FailsByTransport : EStateM.Result Stop State α → Prop
  | .ok _ t => t.err = false
  | .error e t => t.err = true ↔ e = .raise .commFailure .transport

theorem Writes.err {p : Part} {g : State → State} (h : Writes p g) (s : State) : (g s).err = s.err := by
  cases h <;> simp [State.enterPhase]

theorem Built.failsByTransport (h : Built K b) : ∀ s : State, s.err = false → FailsByTransport (b s) := by
  induction h with
  | pure a => exact fun s herr => herr
  | assert f => exact fun s herr => by simp [FailsByTransport, herr]
  | raise kind hr => exact fun s herr => by simp [FailsByTransport, herr, hr]
  | look _ _ ih => exact fun s herr => ih s s herr
  | bind _ _ ihx ihf =>
    intro s herr
    have hx := ihx s herr
    rw [bind_run]
    split
    next a t hrun =>
      rw [hrun] at hx
      exact ihf a t hx
    next e t hrun =>
      rw [hrun] at hx
      exact hx
  | goTo dst =>
    intro s herr
    rcases tapGoTo_cases dst s with ⟨h, -⟩ | ⟨-, -, h⟩ | ⟨-, -, -, h⟩ | ⟨-, -, -, h⟩
    · simp [herr] at h
    all_goals simp [h, FailsByTransport, herr]
  | shift tx n exit =>
    intro s herr
    rcases tapShift_cases tx n exit s with ⟨h, -⟩ | ⟨-, -, h⟩ | ⟨-, -, -, h⟩ | ⟨reg, -, -, -, -, h⟩ |
      ⟨reg, -, -, -, -, h⟩
    · simp [herr] at h
    all_goals cases exit <;> simp [h, FailsByTransport, herr]
  | settle cycles =>
    intro s herr
    rcases tapSettle_cases cycles s with ⟨h, -⟩ | ⟨-, -, h⟩ | ⟨-, -, -, h⟩ | ⟨-, -, -, h⟩
    · simp [herr] at h
    all_goals simp [h, FailsByTransport, herr]
  | delay t => exact fun s herr => herr
  | write _ hg => exact fun s herr => (hg.err s).trans herr
  | stop _ hg _ ih =>
    intro s herr
    have hx := ih s herr
    unfold onStop
    split
    next a t hrun =>
      rw [hrun] at hx
      exact hx
    next e t hrun =>
      rw [hrun] at hx
      exact (congrArg (· = true) (hg.err t)).to_iff.trans hx

end

/-- From a clear sticky error: what a command's answer says of it (60_exceptions.md R333). -/
theorem commit_err {b : Bridge Flow} (hb : Built macroParts b) {s s' : State} (herr : s.err = false)
    (h : commit b s = .next s') :
    (s'.err = true → s'.result = some (failedResult .transport)) ∧
      (s'.results = s.results ++ [failedResult .transport] → s'.err = true) := by
  have hfails := hb.failsByTransport s herr
  have hresults := hb.results s
  rcases commit_cases b s with ⟨k, d, t, hrun, hc⟩ | ⟨w, t, hrun, hc⟩ | ⟨k, r, t, hrun, hc⟩ | ⟨f, t, -, hc⟩
  all_goals cases hc.symm.trans h
  all_goals rw [hrun] at hfails hresults
  · have hclear : t.err = false := hfails
    refine ⟨fun hset => absurd hset (by simp [hclear]), fun hr => ?_⟩
    cases eq_of_answer_results hresults hr
  · have hclear : t.err = false := hfails
    refine ⟨fun hset => absurd hset (by simp [hclear]), fun hr => ?_⟩
    exact absurd (hresults.symm.trans hr) (by simp)
  · refine ⟨fun hset => ?_, fun hr => hfails.mpr ?_⟩
    · cases hfails.mp hset
      rfl
    · cases eq_of_answer_results hresults hr
      rfl

/-- No update clears the sticky error. -/
theorem Update.err_stays {s t : State} (h : Update s t) (herr : s.err = true) : t.err = true := by
  cases h with
  | moveFailed | shiftFailed | settleFailed => rfl
  | shifted reg tx n exit => cases exit <;> simpa using herr
  | _ => simpa [State.enterPhase] using herr

theorem Updates.err_stays {s t : State} (h : Updates s t) (herr : s.err = true) : t.err = true := by
  induction h with
  | refl => exact herr
  | tail _ hlast ih => exact hlast.err_stays ih

/-- What a command leaves of a field that its answer and its wait do not concern. -/
theorem commit_field {β : Type} (F : State → β) (hF : ∀ (t : State) r, F (t.answer r) = F t)
    (hw : ∀ (t : State) w, F { t with task := w } = F t) {b : Bridge Flow} {s s' : State} (h : commit b s = .next s') :
    F s' = F (endState (b s)) := by
  rcases commit_cases b s with ⟨k, d, t, hrun, hc⟩ | ⟨w, t, hrun, hc⟩ | ⟨k, r, t, hrun, hc⟩ | ⟨f, t, -, hc⟩
  all_goals cases hc.symm.trans h
  all_goals rw [hrun]
  · exact hF t _
  · exact hw t _
  · exact hF t _

theorem commit_err_stays {b : Bridge Flow} (hb : MakesUpdates b) {s s' : State} (herr : s.err = true)
    (h : commit b s = .next s') : s'.err = true :=
  (commit_field State.err (fun _ _ => rfl) (fun _ _ => rfl) h).trans ((hb s).err_stays herr)

/-- A `SESSION_OPEN` sets no sticky error and does not end with COMM_FAILURE(TRANSPORT) (70_reset_and_hazards.md R371). -/
theorem execSessionOpen_err {sel : List Byte} {s s' : State} (h : execSessionOpen sel s = .next s') :
    (s.err = false → s'.err = false) ∧ s'.results ≠ s.results ++ [failedResult .transport] := by
  by_cases hlen : sel.length ≤ s.cfg.maxXferBytes
  · cases (execSessionOpen_of_short hlen).symm.trans h
    cases hanswer : s.nextAnswer.ok with
    | true =>
      rw [openSession_of_ok sel hanswer]
      exact ⟨fun _ => rfl, fun hr => by cases eq_of_answer_results (by simp) hr⟩
    | false =>
      rw [openSession_of_failed sel hanswer]
      exact ⟨fun _ => rfl, fun hr => by cases eq_of_answer_results (by simp) hr⟩
  · cases (execSessionOpen_of_long hlen).symm.trans h
    exact ⟨id, fun hr => by cases eq_of_answer_results rfl hr⟩

/-- `SESSION_CLOSE` leaves the sticky error and does not end with COMM_FAILURE(TRANSPORT) (R372). -/
theorem execSessionClose_err {s s' : State} (h : execSessionClose s = .next s') :
    s'.err = s.err ∧ s'.results ≠ s.results ++ [failedResult .transport] := by
  by_cases hsession : s.session = .closed
  · cases (commit_raised (cmdSessionClose_of_closed hsession)).symm.trans h
    exact ⟨rfl, fun hr => by cases eq_of_answer_results rfl hr⟩
  · cases (commit_ended (cmdSessionClose_of_open hsession)).symm.trans h
    exact ⟨by simp, fun hr => by cases eq_of_answer_results (by simp) hr⟩

/-- Settles O11: a command built of the primitives sets the sticky error where one of them raises TRANSPORT and there alone,
no update clears it, and the session's two are looked at by themselves. -/
theorem stickyErrorRule : Obligations.StickyErrorRule := by
  refine ⟨fun i s s' h => ?_, fun t s s' h => ?_⟩
  · cases hopen : i.isSessionOpen with
    | true =>
      cases i <;> cases hopen
      obtain ⟨hclear, hresults⟩ := execSessionOpen_err h
      exact ⟨fun herr hset => absurd hset (by simp [hclear herr]), fun hr => absurd hr hresults, fun _ _ => rfl⟩
    | false =>
      cases hclose : i.isSessionClose with
      | true =>
        cases i <;> cases hclose
        obtain ⟨hkeep, hresults⟩ := execSessionClose_err h
        exact ⟨fun herr hset => absurd hset (by simp [hkeep, herr]), fun hr => absurd hr hresults,
          fun hset hclear => absurd hset (by simp [← hkeep, hclear])⟩
      | false =>
        have hfast : i ≠ .opFastRead := fun hi => by rw [hi] at h; cases h
        obtain ⟨b, hb, heq⟩ := exec_eq_commit_built hopen hclose hfast
        obtain ⟨b', hb', heq'⟩ := exec_eq_commit hopen hclose hfast
        have hstays : s.err = true → s'.err = true := fun herr => commit_err_stays hb' herr (heq' ▸ h)
        rw [heq] at h
        refine ⟨fun herr => (commit_err hb herr h).1, fun hr => ?_, fun hset hclear => ?_⟩
        · cases herr : s.err with
          | false => exact (commit_err hb herr h).2 hr
          | true => exact hstays herr
        · simp [hstays hset] at hclear
  · have hstays : s.err = true → s'.err = true := fun herr => commit_err_stays (s := { s with task := none }) (resumeTask_updates t) herr h
    refine ⟨fun herr => (commit_err (s := { s with task := none }) (built_resumeTask t) herr h).1, fun hr => ?_, hstays⟩
    cases herr : s.err with
    | false => exact (commit_err (s := { s with task := none }) (built_resumeTask t) herr h).2 hr
    | true => exact hstays herr

end Sys2Proof.Machine
end

section
/-! SUPPORT. The session while it is closed and what opens it (10_state.md R32), and the state at power-up (R56). -/

namespace Sys2Proof.Machine

/-- Settles O7: the fields of the state at power-up, as its definition gives them. -/
theorem resetState : Obligations.ResetState :=
  ⟨rfl, rfl, rfl, rfl, rfl, rfl, rfl, rfl, rfl, rfl, rfl, rfl, rfl, rfl⟩

/-! ## A closed session -/

/-- In a closed session every instruction but `SESSION_OPEN` is refused before it does anything. -/
theorem exec_of_closed {i : Instr} {s : State} (h : s.session = .closed) (hopen : i.isSessionOpen = false)
    (hfast : i ≠ .opFastRead) : exec i s = .next (s.answer (refusedResult .noSession)) := by
  cases hclose : i.isSessionClose with
  | true =>
    cases i <;> cases hclose
    exact commit_raised (cmdSessionClose_of_closed h)
  | false =>
    rcases isCommand_or_isMacro hopen hclose hfast with hi | hmacro
    · exact exec_of_entryStop hi (entryStop_of_checkStop (checkStop_of_refusal (earlyRefusal_closed h)))
    · exact exec_macro_refused hmacro (earlyRefusal_closed h)

/-- A host command decodes to `SESSION_OPEN` by its code alone, and to no bare frame (30_encoding.md R101). -/
theorem decodeHost_not_open {d : Descriptor} {i : Instr} (h : decodeHost d = .ok i) (hcode : hCode d.header ≠ 0x01) :
    i.isSessionOpen = false ∧ i ≠ .opFastRead := by
  obtain ⟨r, hrow, -, -, -, rfl⟩ := Laws.decodeHost_eq_ok_iff.mp h
  obtain ⟨hmem, hr⟩ := Laws.hostRow_eq_some hrow
  rw [← hr] at hcode
  unfold hostRows hostRowsLow hostRowsFlash hostRowsConfig hostRowsOrchestrator at hmem
  rcases hmem with _ | ⟨_, hmem⟩
  · exact absurd rfl hcode
  repeat
    rcases hmem with _ | ⟨_, hmem⟩
    · exact ⟨rfl, nofun⟩
  cases hmem

theorem step_of_closed {s : State} {d : Descriptor} {rest : List Fetch} (h : s.session = .closed) (htask : s.task = none)
    (hinbox : s.inbox = .host d :: rest) (hcode : hCode d.header ≠ 0x01) :
    step s = .next ({ s with inbox := rest }.answer (refusedResult .noSession)) := by
  cases hdec : decode s.cfg s.irFamily (.host d) with
  | ok i =>
    obtain ⟨hopen, hfast⟩ := decodeHost_not_open hdec hcode
    rw [step_of_decode_ok htask hinbox hdec]
    exact exec_of_closed h hopen hfast
  | error e =>
    have hreason : headerReason s.session (hCode d.header) = .noSession := if_pos ⟨h, hcode⟩
    rw [step_of_decode_error htask hinbox hdec, rejectInput, hreason]
    rfl

/-! ## What opens and closes it -/

theorem Update.session {s t : State} (h : Update s t) : t.session = s.session := by
  cases h with
  | shifted reg tx n exit => cases exit <;> simp
  | _ => simp [State.enterPhase]

theorem Updates.session {s t : State} (h : Updates s t) : t.session = s.session := by
  induction h with
  | refl => rfl
  | tail _ hlast ih => exact hlast.session.trans ih

theorem commit_session {b : Bridge Flow} (hb : MakesUpdates b) {s s' : State} (h : commit b s = .next s') :
    s'.session = s.session :=
  (commit_field State.session (fun _ _ => rfl) (fun _ _ => rfl) h).trans (hb s).session

theorem execSessionOpen_session {sel : List Byte} {s s' : State} (h : execSessionOpen sel s = .next s') :
    s'.session = .opened ↔
      s'.result = some (okResult .none) ∨ (s.session = .opened ∧ s'.result = some (refusedResult .badLength)) := by
  by_cases hlen : sel.length ≤ s.cfg.maxXferBytes
  · cases (execSessionOpen_of_short hlen).symm.trans h
    cases hanswer : s.nextAnswer.ok with
    | true =>
      rw [openSession_of_ok sel hanswer]
      exact iff_of_true rfl (.inl rfl)
    | false =>
      rw [openSession_of_failed sel hanswer]
      simp [okResult, refusedResult]
  · cases (execSessionOpen_of_long hlen).symm.trans h
    simp [okResult, refusedResult]

theorem exec_session {i : Instr} {s s' : State} (hopen : i.isSessionOpen = false) (h : exec i s = .next s') :
    s'.session = .opened ↔ s.session = .opened ∧ i.isSessionClose = false := by
  cases hclose : i.isSessionClose with
  | true =>
    cases i <;> cases hclose
    by_cases hsession : s.session = .closed
    · cases (commit_raised (cmdSessionClose_of_closed hsession)).symm.trans h
      simp [hsession]
    · cases (commit_ended (cmdSessionClose_of_open hsession)).symm.trans h
      simp
  | false =>
    have hfast : i ≠ .opFastRead := fun hi => by rw [hi] at h; cases h
    obtain ⟨b, hb, heq⟩ := exec_eq_commit hopen hclose hfast
    rw [commit_session hb (heq ▸ h)]
    simp

/-- Settles O10: the session is the first check of every command, no update writes it, and the session's two do. -/
theorem sessionRule : Obligations.SessionRule := by
  refine ⟨fun i s h hopen hfast => exec_of_closed h hopen hfast, fun s d rest h htask hinbox hcode =>
    step_of_closed h htask hinbox hcode, fun i s s' h => ?_, fun t s s' h => ?_⟩
  · cases hopen : i.isSessionOpen with
    | true =>
      cases i <;> cases hopen
      exact execSessionOpen_session h
    | false => exact exec_session hopen h
  · exact commit_session (s := { s with task := none }) (resumeTask_updates t) h

end Sys2Proof.Machine
end

section
/-! SUPPORT. The hazard marks (10_state.md R40, 60_exceptions.md R334): under what conditions each is raised, and that none is
removed but by `SESSION_OPEN`. -/

namespace Sys2Proof.Machine

/-! ## The conditions of the marks -/

theorem has_add (h : HazardSet) (m m' : HazardMark) : (h.add m).has m' = (h.has m' || decide (m = m')) := by
  cases m <;> cases m' <;> simp [HazardSet.add, HazardSet.has]

theorem has_markIf (s : State) (b : Bool) (m m' : HazardMark) :
    (s.markIf b m).hz.has m' = (s.hz.has m' || (b && decide (m = m'))) := by
  cases b <;> simp [has_add]

/-- Which marks the prologue of a flash command adds (43_flash_commands.md R200, 41_spi_bridge.md R158). -/
theorem has_flashHazards (s : State) (k : FlashKind) (m : HazardMark) :
    (s.flashHazards k).hz.has m = (s.hz.has m || (!s.pt && decide (HazardMark.noPassthrough = m)) ||
      ((s.mustPoll && k != .poll) && decide (HazardMark.busyNotPolled = m)) ||
      ((k != .contRead && s.pt && s.tap == .shiftDr) && decide (HazardMark.frameMerged = m))) := by
  simp only [State.flashHazards, has_markIf]

theorem has_writeEnableHazard (s : State) (m : HazardMark) :
    s.writeEnableHazard.hz.has m = (s.hz.has m || (!s.weIssued && decide (HazardMark.noWriteEnable = m))) :=
  has_markIf s _ _ m

/-- The reference target is known no more after a mark, and only then (60_exceptions.md R334; log 14). -/
theorem target_flashHazards (s : State) (k : FlashKind) :
    (s.flashHazards k).target =
      if s.pt = false ∨ (s.mustPoll = true ∧ k ≠ .poll) ∨ (k ≠ .contRead ∧ s.pt = true ∧ s.tap = .shiftDr) then none
      else s.target := by
  simp only [State.flashHazards, State.markIf_target]
  cases s.pt <;> cases s.mustPoll <;> by_cases htap : s.tap = .shiftDr <;> cases k <;> simp [htap]

/-- Settles O18: each mark by its own condition. -/
theorem hazardMarkConditions : Obligations.HazardMarkConditions := by
  intro s k
  refine ⟨?_, ?_, ?_, ?_, ?_, fun m hm => ?_, target_flashHazards s k, ?_, by simp, by simp, by simp⟩
  · simp [has_flashHazards]
  · simp [has_flashHazards]
  · simp [has_flashHazards, and_assoc]
  · simp [has_flashHazards]
  · rw [has_writeEnableHazard]
    simp
  · rw [has_writeEnableHazard]
    simp [hm.symm]
  · cases hwe : s.weIssued <;> simp [State.writeEnableHazard, hwe]

/-! ## Marks stay -/

theorem Update.marks_stay {s t : State} (h : Update s t) {m : HazardMark} (hm : s.hz.has m = true) :
    t.hz.has m = true := by
  cases h with
  | shifted reg tx n exit => cases exit <;> simpa using hm
  | prologueMarked k => rw [has_flashHazards, hm, Bool.true_or, Bool.true_or, Bool.true_or]
  | writeMarked => rw [has_writeEnableHazard, hm, Bool.true_or]
  | _ => simpa [State.enterPhase] using hm

theorem Updates.marks_stay {s t : State} (h : Updates s t) {m : HazardMark} (hm : s.hz.has m = true) :
    t.hz.has m = true := by
  induction h with
  | refl => exact hm
  | tail _ hlast ih => exact hlast.marks_stay ih

/-- A step keeps every mark, and where it leaves a reference target known, it raised none. -/
def KeepsMarks (s s' : State) : Prop :=
  (∀ m, s.hz.has m = true → s'.hz.has m = true) ∧ (s'.target.isSome = true → s'.hz = s.hz ∧ s.target.isSome = true)

theorem Updates.keepsMarks {s t : State} (h : Updates s t) : KeepsMarks s t := by
  refine ⟨fun m => h.marks_stay, fun hknown => ?_⟩
  obtain ⟨after, ha⟩ := Option.isSome_iff_exists.mp hknown
  obtain ⟨before, -, hbefore, hhz, -⟩ := h.storesOnWire.wired after ha
  exact ⟨hhz, by simp [hbefore]⟩

theorem commit_keepsMarks {b : Bridge Flow} (hb : MakesUpdates b) {s s' : State} (h : commit b s = .next s') :
    KeepsMarks s s' := by
  have hhz := commit_field State.hz (fun _ _ => rfl) (fun _ _ => rfl) h
  have htarget := commit_field State.target (fun _ _ => rfl) (fun _ _ => rfl) h
  unfold KeepsMarks
  rw [hhz, htarget]
  exact (hb s).keepsMarks

theorem execSessionClose_keepsMarks {s s' : State} (h : execSessionClose s = .next s') : KeepsMarks s s' := by
  by_cases hsession : s.session = .closed
  · cases (commit_raised (cmdSessionClose_of_closed hsession)).symm.trans h
    exact ⟨fun _ => id, fun hknown => ⟨rfl, hknown⟩⟩
  · cases (commit_ended (cmdSessionClose_of_open hsession)).symm.trans h
    refine ⟨fun m hm => by simpa using hm, fun hknown => ⟨by simp, ?_⟩⟩
    simp only [State.answer_target, State.closePort_target] at hknown
    split at hknown
    · cases hknown
    · exact hknown

/-- `SESSION_OPEN` empties the set, and makes no target known (70_reset_and_hazards.md R371). -/
theorem execSessionOpen_marks {sel : List Byte} {s s' : State} (h : execSessionOpen sel s = .next s') :
    (sel.length ≤ s.cfg.maxXferBytes → s'.hz = {}) ∧ (s'.target.isSome = true → s.target.isSome = true) := by
  by_cases hlen : sel.length ≤ s.cfg.maxXferBytes
  · cases (execSessionOpen_of_short hlen).symm.trans h
    have htarget : (s.openSession sel).target = s.closeIfOpen.target := by
      cases hanswer : s.nextAnswer.ok with
      | true => rw [openSession_of_ok sel hanswer]; rfl
      | false => rw [openSession_of_failed sel hanswer]; rfl
    refine ⟨fun _ => ?_, fun hknown => ?_⟩
    · cases hanswer : s.nextAnswer.ok with
      | true => rw [openSession_of_ok sel hanswer]; rfl
      | false => rw [openSession_of_failed sel hanswer]; rfl
    · rw [htarget, State.closeIfOpen_target] at hknown
      split at hknown
      · cases hknown
      · exact hknown
  · cases (execSessionOpen_of_long hlen).symm.trans h
    exact ⟨fun hshort => absurd hshort hlen, id⟩

/-- Settles O17: the updates of a command keep every mark and a target they leave known has seen none raised; the session's
two are looked at by themselves. -/
theorem hazardMarksStay : Obligations.HazardMarksStay := by
  refine ⟨fun i s s' h hopen => ?_, fun t s s' h => ?_, fun sel s s' h => execSessionOpen_marks h⟩
  · cases hclose : i.isSessionClose with
    | true =>
      cases i <;> cases hclose
      exact execSessionClose_keepsMarks h
    | false =>
      have hfast : i ≠ .opFastRead := fun hi => by rw [hi] at h; cases h
      obtain ⟨b, hb, heq⟩ := exec_eq_commit hopen hclose hfast
      exact commit_keepsMarks hb (heq ▸ h)
  · exact commit_keepsMarks (s := { s with task := none }) (resumeTask_updates t) h

end Sys2Proof.Machine
end

section
/-! SUPPORT. How the macros cut a range (45_orchestrator.md R285 to R292): erase blocks, pages and chunks, and the statements
about them. -/

namespace Sys2Proof

/-! ## Rounding and the erase region -/

theorem roundDown_eq (x b : Nat) : roundDown x b = b * (x / b) := by
  have := Nat.div_add_mod x b
  rw [roundDown]
  omega

section
variable {offset length b : Nat}

/-- The number of blocks of the erase region (R288). -/
def blockCount (offset length b : Nat) : Nat := (offset + length + b - 1) / b - offset / b

theorem eraseBegin_eq (offset b : Nat) : eraseBegin offset b = b * (offset / b) := roundDown_eq offset b

theorem eraseEnd_eq (hb : 0 < b) (offset length : Nat) :
    eraseEnd offset length b = b * (offset / b) + b * blockCount offset length b := by
  have hle : offset / b ≤ (offset + length + b - 1) / b := Nat.div_le_div_right (by omega)
  rw [eraseEnd, roundUp, roundDown_eq, blockCount, ← Nat.mul_add, Nat.add_sub_cancel' hle]

theorem eraseBegin_bounds (hb : 0 < b) (offset : Nat) : eraseBegin offset b ≤ offset ∧ offset < eraseBegin offset b + b := by
  have := Nat.div_add_mod offset b
  have := Nat.mod_lt offset hb
  rw [eraseBegin_eq]
  omega

theorem eraseEnd_bounds (hb : 0 < b) (offset length : Nat) :
    offset + length ≤ eraseEnd offset length b ∧ eraseEnd offset length b < offset + length + b := by
  have := Nat.div_add_mod (offset + length + b - 1) b
  have := Nat.mod_lt (offset + length + b - 1) hb
  rw [eraseEnd, roundUp, roundDown_eq]
  omega

theorem dvd_eraseBegin (offset b : Nat) : b ∣ eraseBegin offset b := eraseBegin_eq offset b ▸ Nat.dvd_mul_right _ _

theorem dvd_eraseEnd (offset length b : Nat) : b ∣ eraseEnd offset length b := by
  rw [eraseEnd, roundUp, roundDown_eq]
  exact Nat.dvd_mul_right _ _

theorem eraseEnd_sub_eraseBegin (hb : 0 < b) (offset length : Nat) :
    eraseEnd offset length b - eraseBegin offset b = b * blockCount offset length b := by
  rw [eraseBegin_eq, eraseEnd_eq hb, Nat.add_sub_cancel_left]

/-- A multiple of the block size past the end of the range is past the end of the region. -/
theorem eraseEnd_le (hb : 0 < b) {x : Nat} (hdvd : b ∣ x) (hx : offset + length ≤ x) : eraseEnd offset length b ≤ x := by
  obtain ⟨k, rfl⟩ := hdvd
  obtain ⟨r, hr⟩ := dvd_eraseEnd offset length b
  have hlt := (eraseEnd_bounds hb offset length).2
  rw [hr] at hlt ⊢
  have : r < k + 1 := Nat.lt_of_mul_lt_mul_left (a := b) (by rw [Nat.mul_add]; omega)
  exact Nat.mul_le_mul_left b (by omega)

/-- A multiple of the block size before the offset is before the begin of the region. -/
theorem le_eraseBegin {x : Nat} (hdvd : b ∣ x) (hx : x ≤ offset) : x ≤ eraseBegin offset b := by
  obtain ⟨k, rfl⟩ := hdvd
  rw [eraseBegin_eq]
  rcases Nat.eq_zero_or_pos b with rfl | hb
  · simp
  · exact Nat.mul_le_mul_left b ((Nat.le_div_iff_mul_le hb).mpr (by rwa [Nat.mul_comm]))

/-- The region of an empty range is empty or one block. -/
theorem eraseRegion_of_empty (hb : 0 < b) (offset : Nat) :
    eraseEnd offset 0 b - eraseBegin offset b = if b ∣ offset then 0 else b := by
  have hlo := eraseBegin_bounds hb offset
  have hhi := eraseEnd_bounds hb offset 0
  split
  next hdvd =>
    have := le_eraseBegin hdvd (Nat.le_refl offset)
    have := eraseEnd_le hb hdvd (length := 0) (Nat.le_refl offset)
    omega
  next hdvd =>
    have hne : eraseBegin offset b ≠ offset := fun h => hdvd (h ▸ dvd_eraseBegin offset b)
    have hle : eraseEnd offset 0 b ≤ eraseBegin offset b + b :=
      eraseEnd_le hb ((dvd_eraseBegin offset b).add (Nat.dvd_refl b)) (by omega)
    obtain ⟨n, hn⟩ : b ∣ eraseEnd offset 0 b - eraseBegin offset b :=
      Nat.dvd_sub (dvd_eraseEnd offset 0 b) (dvd_eraseBegin offset b)
    rcases n with _ | n
    · omega
    · have := Nat.le_mul_of_pos_right b (Nat.zero_lt_succ n)
      rw [Nat.succ_eq_add_one] at this
      omega

/-- The blocks, by their number (R288). -/
theorem eraseBlocks_eq (hb : 0 < b) (offset length : Nat) :
    eraseBlocks offset length b =
      (List.range (blockCount offset length b)).map fun i => eraseBegin offset b + b * i := by
  rw [eraseBlocks, eraseEnd_sub_eraseBegin hb, Nat.mul_div_cancel_left _ hb]

theorem mem_eraseBlocks (hb : 0 < b) {a : Nat} :
    a ∈ eraseBlocks offset length b ↔ ∃ i < blockCount offset length b, a = eraseBegin offset b + b * i := by
  rw [eraseBlocks_eq hb]
  simp [eq_comm]

/-- The blocks cover exactly the region. -/
theorem exists_block_iff (hb : 0 < b) (x : Nat) :
    (∃ a ∈ eraseBlocks offset length b, b ∣ a ∧ a ≤ x ∧ x < a + b) ↔
      eraseBegin offset b ≤ x ∧ x < eraseEnd offset length b := by
  have hend : eraseEnd offset length b = eraseBegin offset b + b * blockCount offset length b := by
    rw [eraseEnd_eq hb, eraseBegin_eq]
  constructor
  · rintro ⟨a, ha, -, hle, hlt⟩
    obtain ⟨i, hi, rfl⟩ := (mem_eraseBlocks hb).mp ha
    have := Nat.mul_le_mul_left b (Nat.succ_le_of_lt hi)
    rw [Nat.mul_succ] at this
    omega
  · rintro ⟨hle, hlt⟩
    have hdiv := Nat.div_add_mod (x - eraseBegin offset b) b
    have hmod := Nat.mod_lt (x - eraseBegin offset b) hb
    refine ⟨eraseBegin offset b + b * ((x - eraseBegin offset b) / b), (mem_eraseBlocks hb).mpr ⟨_, ?_, rfl⟩,
      (dvd_eraseBegin offset b).add (Nat.dvd_mul_right _ _), by omega, by omega⟩
    exact Nat.lt_of_mul_lt_mul_left (a := b) (by omega)

end

/-- Settles O28: both ends are multiples of the block size within one block of the range, and the blocks count from one to
the other. -/
theorem eraseRegion : Obligations.EraseRegion := by
  intro offset length b hb hdvd hoffset hrange lo hi
  refine ⟨(eraseBegin_bounds hb offset).1, (eraseEnd_bounds hb offset length).1, dvd_eraseBegin offset b,
    dvd_eraseEnd offset length b, eraseEnd_le hb hdvd hrange, fun lo' hi' hlo hhi hdlo hdhi => ?_, fun h => ?_, ?_, ?_,
    exists_block_iff hb⟩
  · have := le_eraseBegin hdlo hlo
    have := eraseEnd_le hb hdhi hhi
    omega
  · subst h
    exact eraseRegion_of_empty hb offset
  · rw [eraseBlocks_eq hb, List.length_map, List.length_range, eraseEnd_sub_eraseBegin hb, Nat.mul_div_cancel_left _ hb]
  · rw [eraseBlocks_eq hb, List.pairwise_map]
    exact List.pairwise_lt_range.imp fun h => Nat.add_lt_add_left (Nat.mul_lt_mul_of_pos_left h hb) _

/-! ## Pieces -/

/-- The next page boundary after an address (20_memory.md R79). -/
theorem dvd_add_page (page a : Nat) (h : 0 < page) : page ∣ a + (page - a % page) := by
  have := Nat.div_add_mod a page
  have := Nat.mod_lt a h
  exact ⟨a / page + 1, by rw [Nat.mul_add]; omega⟩

/-- The length of a piece that is cut off (45_orchestrator.md R290). -/
def cutLength (page a : Nat) (data : List Byte) : Nat := min data.length (page - a % page)

theorem pieces_succ (page k a : Nat) {data : List Byte} (h : data ≠ []) :
    pieces page (k + 1) a data = (a, data.take (cutLength page a data)) ::
      pieces page k (a + cutLength page a data) (data.drop (cutLength page a data)) := by
  cases data with
  | nil => exact absurd rfl h
  | cons b bs => rfl

theorem cutLength_pos {page : Nat} (hp : 0 < page) (a : Nat) {data : List Byte} (h : data ≠ []) :
    1 ≤ cutLength page a data := by
  have := Nat.mod_lt a hp
  have := List.length_pos_iff.mpr h
  rw [cutLength]
  omega

section
variable {page : Nat}

/-- The pieces joined are the image. -/
theorem flatten_pieces (hp : 0 < page) (k : Nat) : ∀ (a : Nat) (data : List Byte), data.length ≤ k →
    ((pieces page k a data).map (·.2)).flatten = data := by
  induction k with
  | zero =>
    intro a data hk
    rw [List.length_eq_zero_iff.mp (Nat.le_zero.mp hk)]
    rfl
  | succ k ih =>
    intro a data hk
    by_cases h : data = []
    · rw [h]; rfl
    · have hpos := cutLength_pos hp a h
      rw [pieces_succ page k a h, List.map_cons, List.flatten_cons, ih _ _ (by rw [List.length_drop]; omega),
        List.take_append_drop]

/-- Where a piece starts and how long it is. -/
structure PieceAt (page a : Nat) (data : List Byte) (before : List (Nat × List Byte)) (k : Nat) (p : Nat × List Byte) :
    Prop where
  start : p.1 = a + (before.map (·.2)).flatten.length
  pos : 1 ≤ p.2.length
  inPage : p.2.length ≤ page - p.1 % page
  inside : p.1 + p.2.length ≤ a + data.length
  aligned : k ≠ 0 → page ∣ p.1

theorem pieceAt (hp : 0 < page) (n : Nat) : ∀ (a : Nat) (data : List Byte) (k : Nat) (p : Nat × List Byte),
    (pieces page n a data)[k]? = some p → PieceAt page a data ((pieces page n a data).take k) k p := by
  induction n with
  | zero => exact fun a data k p h => by cases h
  | succ n ih =>
    intro a data k p hk
    by_cases h : data = []
    · rw [h] at hk
      cases hk
    · have hpos := cutLength_pos hp a h
      have hlen : (data.take (cutLength page a data)).length = cutLength page a data :=
        List.length_take_of_le (Nat.min_le_left _ _)
      rw [pieces_succ page n a h] at hk ⊢
      cases k with
      | zero =>
        cases hk
        exact ⟨rfl, by rw [hlen]; exact hpos, by rw [hlen]; exact Nat.min_le_right _ _,
          Nat.add_le_add_left (by rw [hlen]; exact Nat.min_le_left _ _) a, fun h0 => absurd rfl h0⟩
      | succ k =>
        rw [List.getElem?_cons_succ] at hk
        have hnext := ih _ _ k p hk
        have hin := hnext.inside
        have hpos' := hnext.pos
        have hstart := hnext.start
        rw [List.length_drop] at hin
        have hcut : cutLength page a data = page - a % page := by
          rw [cutLength] at *
          omega
        refine ⟨?_, hnext.pos, hnext.inPage, by omega, fun _ => ?_⟩
        · rw [List.take_succ_cons, List.map_cons, List.flatten_cons, List.length_append, hlen]
          omega
        · rcases k with _ | k
          · rw [hnext.start, List.take_zero, hcut]
            exact dvd_add_page page a hp
          · exact hnext.aligned (Nat.succ_ne_zero k)

end

/-- Settles O29, by induction on the pieces: each but the last ends at a page boundary. -/
theorem programPieces : Obligations.ProgramPieces := by
  intro c offset data hpage hrange
  have hrange : offset.toNat + data.length ≤ 2 ^ 24 := of_decide_eq_true hrange
  refine ⟨flatten_pieces hpage _ _ _ (Nat.le_refl _), fun k a d hk => ?_⟩
  have hpiece := pieceAt hpage _ _ _ k (a, d) hk
  have hpos := hpiece.pos
  have hin := hpiece.inside
  have haddr : a < 2 ^ 24 := by omega
  refine ⟨hpiece.start, haddr, ?_, hpiece.aligned⟩
  rw [pageLenOk, BitVec.toNat_ofNat, Nat.mod_eq_of_lt haddr, Bool.and_eq_true, decide_eq_true_eq, decide_eq_true_eq]
  exact ⟨hpos, hpiece.inPage⟩

/-! ## Chunks -/

section
variable {n : Nat}

theorem chunks_succ (n k : Nat) {data : List Byte} (h : data ≠ []) :
    chunks n (k + 1) data = data.take n :: chunks n k (data.drop n) := by
  cases data with
  | nil => exact absurd rfl h
  | cons b bs => rfl

theorem chunks_nil (n k : Nat) : chunks n k [] = [] := by cases k <;> rfl

theorem flatten_chunks (hn : 0 < n) (k : Nat) : ∀ data : List Byte, data.length ≤ k → (chunks n k data).flatten = data := by
  induction k with
  | zero =>
    intro data hk
    rw [List.length_eq_zero_iff.mp (Nat.le_zero.mp hk)]
    rfl
  | succ k ih =>
    intro data hk
    by_cases h : data = []
    · rw [h]; rfl
    · rw [chunks_succ n k h, List.flatten_cons, ih _ (by rw [List.length_drop]; omega), List.take_append_drop]

theorem length_of_mem_chunks (hn : 0 < n) (k : Nat) : ∀ data : List Byte, ∀ d ∈ chunks n k data,
    1 ≤ d.length ∧ d.length ≤ n := by
  induction k with
  | zero => exact fun data d hd => by cases hd
  | succ k ih =>
    intro data d hd
    by_cases h : data = []
    · rw [h] at hd
      cases hd
    · rw [chunks_succ n k h] at hd
      rcases List.mem_cons.mp hd with rfl | hd
      · have := List.length_pos_iff.mpr h
        rw [List.length_take]
        omega
      · exact ih _ d hd

/-- All chunks but the last have the chunk size: where one follows, the cut was not short. -/
theorem length_of_mem_dropLast_chunks (k : Nat) : ∀ data : List Byte, ∀ d ∈ (chunks n k data).dropLast, d.length = n := by
  induction k with
  | zero => exact fun data d hd => by cases hd
  | succ k ih =>
    intro data d hd
    by_cases h : data = []
    · rw [h] at hd
      cases hd
    · rw [chunks_succ n k h] at hd
      cases hrest : chunks n k (data.drop n) with
      | nil =>
        rw [hrest] at hd
        cases hd
      | cons x xs =>
        rw [hrest, List.dropLast_cons_cons] at hd
        rcases List.mem_cons.mp hd with rfl | hd
        · have hlong : data.drop n ≠ [] := fun h0 => by
            rw [h0, chunks_nil] at hrest
            cases hrest
          have := List.length_pos_iff.mpr hlong
          rw [List.length_drop] at this
          rw [List.length_take]
          omega
        · exact ih _ d (by rw [hrest]; exact hd)

/-- The verify chunks are the chunks, each with its address (R291). -/
theorem addressed_map_snd (n k : Nat) : ∀ (a : Nat) (data : List Byte), (addressed n k a data).map (·.2) = chunks n k data := by
  induction k with
  | zero => exact fun _ _ => rfl
  | succ k ih =>
    intro a data
    cases data with
    | nil => rfl
    | cons b bs => exact congrArg _ (ih _ _)

theorem addressed_start (n k : Nat) : ∀ (a : Nat) (data : List Byte) (j : Nat) (p : Nat × List Byte),
    (addressed n k a data)[j]? = some p → p.1 = a + j * n := by
  induction k with
  | zero => exact fun a data j p h => by cases h
  | succ k ih =>
    intro a data j p hj
    cases data with
    | nil => cases hj
    | cons b bs =>
      cases j with
      | zero =>
        cases hj
        simp
      | succ j =>
        have hj : (addressed n k (a + min n (b :: bs).length) ((b :: bs).drop n))[j]? = some p := hj
        rw [ih _ _ j p hj]
        have hlong : (b :: bs).drop n ≠ [] := fun h0 => by
          rw [h0] at hj
          cases k <;> cases hj
        have := List.length_pos_iff.mpr hlong
        rw [List.length_drop] at this
        rw [Nat.min_eq_left (by omega), Nat.add_mul]
        omega

/-- The sizes of a read are those of the chunks of as many bytes (R292). -/
theorem sizes_eq (n k : Nat) : ∀ len : Nat, sizes n k len = (chunks n k (List.replicate len 0)).map List.length := by
  induction k with
  | zero => exact fun _ => rfl
  | succ k ih =>
    intro len
    cases len with
    | zero => rfl
    | succ len =>
      rw [chunks_succ n k (by simp), sizes, if_neg (Nat.succ_ne_zero len), List.map_cons, List.length_take,
        List.length_replicate, List.drop_replicate, ih]

end

end Sys2Proof

namespace Sys2Proof.Laws

/-- Settles O30: the three ways to cut are one, by induction on the chunks. -/
theorem chunks : Obligations.Chunks := by
  intro c hsram hread
  refine ⟨fun data => ⟨flatten_chunks hsram _ _ (Nat.le_refl _), length_of_mem_dropLast_chunks _ _,
    length_of_mem_chunks hsram _ _⟩, fun offset data => ⟨?_, fun k a d hk => ?_, fun p hp => ?_⟩, fun len => ⟨?_, ?_, ?_⟩⟩
  · rw [verifyChunks, addressed_map_snd]
    exact flatten_chunks hread _ _ (Nat.le_refl _)
  · have hmem : d ∈ Sys2Proof.chunks c.readChunk data.length data := by
      rw [← addressed_map_snd c.readChunk data.length offset.toNat]
      exact List.mem_map_of_mem (f := (·.2)) (List.mem_of_getElem? hk)
    exact ⟨addressed_start _ _ _ _ k (a, d) hk, length_of_mem_chunks hread _ _ d hmem⟩
  · have hmem : p.2 ∈ (Sys2Proof.chunks c.readChunk data.length data).dropLast := by
      rw [← addressed_map_snd c.readChunk data.length offset.toNat, ← List.map_dropLast]
      exact List.mem_map_of_mem (f := (·.2)) hp
    exact length_of_mem_dropLast_chunks _ _ _ hmem
  · rw [readSizes, sizes_eq, ← List.length_flatten, flatten_chunks hread _ _ (by simp), List.length_replicate]
  · intro m hm
    rw [readSizes, sizes_eq, ← List.map_dropLast] at hm
    obtain ⟨d, hd, rfl⟩ := List.mem_map.mp hm
    exact length_of_mem_dropLast_chunks _ _ _ hd
  · intro m hm
    rw [readSizes, sizes_eq] at hm
    obtain ⟨d, hd, rfl⟩ := List.mem_map.mp hm
    exact length_of_mem_chunks hread _ _ d hd

end Sys2Proof.Laws
end

section
/-! SUPPORT. The expansions of the macros as lists (45_orchestrator.md R282 to R295): their sub-commands and phases, part by
part, and the statement. -/

namespace Sys2Proof.Machine

/-! ## Sub-commands and phases of parts -/

@[simp] theorem subCommands_append (a b : List PlanItem) : subCommands (a ++ b) = subCommands a ++ subCommands b := by
  induction a with
  | nil => rfl
  | cons x xs ih => cases x <;> simp [subCommands, ih]

@[simp] theorem phases_append (a b : List PlanItem) : phases (a ++ b) = phases a ++ phases b := by
  induction a with
  | nil => rfl
  | cons x xs ih => cases x <;> simp [phases, ih]

theorem subCommands_flatMap {α : Type} (l : List α) (f : α → List PlanItem) :
    subCommands (l.flatMap f) = l.flatMap fun a => subCommands (f a) := by
  induction l with
  | nil => rfl
  | cons x xs ih => rw [List.flatMap_cons, subCommands_append, ih, List.flatMap_cons]

theorem phases_flatMap {α : Type} (l : List α) {f : α → List PlanItem} (h : ∀ a, phases (f a) = []) :
    phases (l.flatMap f) = [] := by
  induction l with
  | nil => rfl
  | cons x xs ih => rw [List.flatMap_cons, phases_append, h, ih, List.append_nil]

theorem subCommands_map {α : Type} (l : List α) (f : α → Instr) (keep : Keep) :
    subCommands (l.map fun a => .sub (f a) keep) = l.map f := by
  induction l with
  | nil => rfl
  | cons x xs ih => rw [List.map_cons, List.map_cons, subCommands, ih]

theorem phases_map {α : Type} (l : List α) (f : α → Instr) (keep : Keep) : phases (l.map fun a => .sub (f a) keep) = [] := by
  induction l with
  | nil => rfl
  | cons x xs ih => rw [List.map_cons, phases, ih]

section
variable (c : Cfg) (offset : Addr) (len : Nat) (g : Gran) (data : List Byte) (opts : Byte)

theorem subCommands_refreshPhase : subCommands (refreshPhase opts) = if optRefresh opts then [.cRefresh] else [] := by
  unfold refreshPhase
  split <;> rfl

theorem phases_refreshPhase : phases (refreshPhase opts) = if optRefresh opts then [.refresh] else [] := by
  unfold refreshPhase
  split <;> rfl

theorem subCommands_eraseRange :
    subCommands (eraseRange c offset len g) = (eraseBlocks offset.toNat len (c.eraseSize g)).flatMap fun a =>
      [eraseCmd g (BitVec.ofNat 24 a), .fWait] := subCommands_flatMap _ _

theorem phases_eraseRange : phases (eraseRange c offset len g) = [] := phases_flatMap _ fun _ => rfl

theorem subCommands_programErase :
    subCommands (programErase c offset g data opts) =
      if optBulk opts then [.fCe, .fWait]
      else if optNoErase opts then []
      else (eraseBlocks offset.toNat data.length (c.eraseSize g)).flatMap fun a => [eraseCmd g (BitVec.ofNat 24 a), .fWait] := by
  unfold programErase
  split
  · rfl
  · split
    · rfl
    · exact subCommands_eraseRange c offset data.length g

theorem phases_programErase : phases (programErase c offset g data opts) = [] := by
  unfold programErase
  split
  · rfl
  · split
    · rfl
    · exact phases_eraseRange c offset data.length g

theorem subCommands_programLoop :
    subCommands (programLoop c offset data) =
      (pagePieces c offset data).flatMap fun p => [.fPp (BitVec.ofNat 24 p.1) p.2, .fWait] := subCommands_flatMap _ _

theorem phases_programLoop : phases (programLoop c offset data) = [] := phases_flatMap _ fun _ => rfl

theorem subCommands_verifyLoop :
    subCommands (verifyLoop c offset data) = (verifyChunks c offset data).flatMap fun p =>
      [.fRead (BitVec.ofNat 24 p.1), .fContRead (BitVec.ofNat 32 p.2.length), .spiEnd] := subCommands_flatMap _ _

theorem phases_verifyLoop : phases (verifyLoop c offset data) = [] := phases_flatMap _ fun _ => rfl

theorem subCommands_readLoop :
    subCommands (readLoop c offset len) =
      if len = 0 then []
      else .fRead offset :: (readSizes c len).map (fun n => .fContRead (BitVec.ofNat 32 n)) ++ [.spiEnd] := by
  unfold readLoop
  split
  · rfl
  · rw [subCommands_append]
    exact congrArg (fun l => Instr.fRead offset :: l ++ [.spiEnd]) (subCommands_map _ _ _)

theorem phases_readLoop : phases (readLoop c offset len) = [] := by
  unfold readLoop
  split
  · rfl
  · rw [phases_append]
    exact (List.append_nil _).trans (phases_map _ _ _)

theorem subCommands_sramChunks :
    subCommands ((sramChunks c data).map fun d => runIt (.cBurstData d)) = (sramChunks c data).map .cBurstData :=
  subCommands_map _ _ _

theorem phases_sramChunks : phases ((sramChunks c data).map fun d => runIt (.cBurstData d)) = [] := phases_map _ _ _

end

/-- Settles O31, part by part: a list of parts has the sub-commands and the phases of its parts. -/
theorem macroExpansions : Obligations.MacroExpansions := by
  intro c offset len g data opts entry refresh path erase
  have hunprotect : subCommands (if optUnprotect opts then [runIt .fWren, .sub .fUnprotect .unprotect] else []) =
      if optUnprotect opts then [.fWren, .fUnprotect] else [] := by split <;> rfl
  have hunprotect' : phases (if optUnprotect opts then [runIt .fWren, .sub .fUnprotect .unprotect] else []) = [] := by
    split <;> rfl
  have hverify : subCommands (if optNoVerify opts then [] else verifyLoop c offset data) =
      if optNoVerify opts then [] else subCommands (verifyLoop c offset data) := by split <;> rfl
  have hverify' : phases (if optNoVerify opts then [] else verifyLoop c offset data) = [] := by
    split
    · rfl
    · exact phases_verifyLoop c offset data
  refine ⟨rfl, ?_, ?_, ?_, ?_, ?_, ?_, rfl, ?_, ?_, ?_, ?_, ?_, ?_⟩
  · simp only [planProbe, subCommands_append, subCommands_refreshPhase]; rfl
  · simp only [planLoadSram, subCommands_append, subCommands_refreshPhase, subCommands_sramChunks]; rfl
  · simp only [planErase, subCommands_append, subCommands_refreshPhase, subCommands_eraseRange]; rfl
  · simp only [planProgram, subCommands_append, subCommands_refreshPhase, subCommands_programErase,
      subCommands_programLoop, hunprotect, hverify, subCommands_verifyLoop]; rfl
  · simp only [planRead, subCommands_append, subCommands_refreshPhase, subCommands_readLoop]; rfl
  · simp only [planVerify, subCommands_append, subCommands_refreshPhase, subCommands_verifyLoop]; rfl
  · simp only [planProbe, phases_append, phases_refreshPhase]; rfl
  · simp only [planLoadSram, phases_append, phases_refreshPhase, phases_sramChunks, List.append_nil]; rfl
  · simp only [planProgram, phases_append, phases_refreshPhase, phases_programErase, phases_programLoop, hunprotect',
      hverify', List.append_nil]; rfl
  · simp only [planRead, phases_append, phases_refreshPhase, phases_readLoop, List.append_nil]; rfl
  · simp only [planErase, phases_append, phases_refreshPhase, phases_eraseRange, List.append_nil]; rfl
  · simp only [planVerify, phases_append, phases_refreshPhase, phases_verifyLoop, List.append_nil]; rfl

end Sys2Proof.Machine
end

section
/-! SUPPORT. The ghost fields decide nothing (10_state.md R30): a command run from a state with other ghost fields does the
same, ghost fields apart, or a mark was raised in one of the two runs and a reference target is known no more (60_exceptions.md
R334; log 14). By induction on how commands are built, and the statement. -/

namespace Sys2Proof.Machine

section
variable {α : Type}

/-- The same run with other ghost fields at its end. -/
def endWithGhosts (p w m : Bool) (h : HazardSet) : EStateM.Result Stop State α → EStateM.Result Stop State α
  | .ok a t => .ok a (t.withGhosts p w m h)
  | .error e t => .error e (t.withGhosts p w m h)

/-- Two runs come to the same, ghost fields apart. -/
def SameRun (r r' : EStateM.Result Stop State α) : Prop := ∃ p w m h, r' = endWithGhosts p w m h r

/-- A reference target known at the start is not known at the end of both runs. -/
def LosesTarget (s : State) (r r' : EStateM.Result Stop State α) : Prop :=
  s.target.isSome = true ∧ ((endState r).target = none ∨ (endState r').target = none)

/-- A target that is not known stays so. -/
theorem Writes.target_none {p : Part} {g : State → State} (h : Writes p g) {s : State} (hs : s.target = none) :
    (g s).target = none := by
  cases h with
  | prologueMarked k =>
    rw [target_flashHazards]
    split
    · rfl
    · exact hs
  | _ => simp [State.enterPhase, hs]

theorem Built.target_none {K : List Part} {b : Bridge α} (h : Built K b) (s : State) (hs : s.target = none) :
    (endState (b s)).target = none := by
  refine h.maintains (P := fun t => t.target = none) ?_ (fun _ _ _ hg _ => hg.target_none) s hs
  rintro s t ⟨_, _, _, _, _, _, _, _, hkeep, rfl⟩
  exact fun hs => by simpa [hs] using hkeep

/-! ## Pieces -/

theorem tapGoTo_ghosts (dst : TapState) (s : State) (p w m : Bool) (h : HazardSet) :
    SameRun (tapGoTo dst s) (tapGoTo dst (s.withGhosts p w m h)) := by
  refine ⟨p, w, m, h, ?_⟩
  have hdriver : (s.withGhosts p w m h).driverOk = s.driverOk := rfl
  unfold tapGoTo
  rw [hdriver]
  cases herr : s.err with
  | true => simp [herr, endWithGhosts]
  | false =>
    by_cases htap : s.tap = dst
    · simp [herr, htap, endWithGhosts]
    · cases s.driverOk <;> simp [herr, htap, endWithGhosts] <;> rfl

theorem tapShift_ghosts (tx : List Byte) (n : Nat) (exit : Bool) (s : State) (p w m : Bool) (h : HazardSet) :
    SameRun (tapShift tx n exit s) (tapShift tx n exit (s.withGhosts p w m h)) := by
  refine ⟨p, w, m, h, ?_⟩
  have hdriver : (s.withGhosts p w m h).driverOk = s.driverOk := rfl
  unfold tapShift
  rw [hdriver]
  cases herr : s.err with
  | true => simp [herr, endWithGhosts]
  | false =>
    cases hreg : shiftReg s.tap with
    | none => simp [herr, hreg, endWithGhosts]
    | some reg =>
      by_cases hlen : n % 8 = 0 ∧ tx.length = n / 8
      · cases hanswer : s.driverOk with
        | true => simp [herr, hreg, hlen, endWithGhosts]; cases exit <;> cases reg <;> exact ⟨rfl, rfl⟩
        | false => simp [herr, hreg, hlen, endWithGhosts]; cases reg <;> rfl
      · simp [herr, hreg, hlen, endWithGhosts]

theorem tapSettle_ghosts (cycles : Nat) (s : State) (p w m : Bool) (h : HazardSet) :
    SameRun (tapSettle cycles s) (tapSettle cycles (s.withGhosts p w m h)) := by
  refine ⟨p, w, m, h, ?_⟩
  have hdriver : (s.withGhosts p w m h).driverOk = s.driverOk := rfl
  unfold tapSettle
  rw [hdriver]
  cases herr : s.err with
  | true => simp [herr, endWithGhosts]
  | false =>
    by_cases htap : s.tap = .runTestIdle
    · cases s.driverOk <;> simp [herr, htap, endWithGhosts] <;> rfl
    · simp [herr, htap, endWithGhosts]

end

/-- Marks change nothing but the marks where no target is known; elsewhere they change nothing or lose the target. -/
theorem marking_ghosts {g : State → State} (hg : ∀ s, g s = { s with hz := (g s).hz, target := (g s).target })
    (hknown : ∀ s, (g s).target.isSome = true → g s = s) (hnone : ∀ s, s.target = none → (g s).target = none)
    (s : State) (p w m : Bool) (h : HazardSet) :
    (∃ p' w' m' h', g (s.withGhosts p w m h) = (g s).withGhosts p' w' m' h') ∨
      s.target.isSome = true ∧ ((g s).target = none ∨ (g (s.withGhosts p w m h)).target = none) := by
  by_cases htarget : s.target = none
  · left
    refine ⟨p, w, m, (g (s.withGhosts p w m h)).hz, ?_⟩
    rw [hg (s.withGhosts p w m h), hnone (s.withGhosts p w m h) htarget, hg s, hnone s htarget]
    rfl
  · cases h1 : (g s).target with
    | none => exact .inr ⟨Option.isSome_iff_ne_none.mpr htarget, .inl rfl⟩
    | some t =>
      cases h2 : (g (s.withGhosts p w m h)).target with
      | none => exact .inr ⟨Option.isSome_iff_ne_none.mpr htarget, .inr rfl⟩
      | some t' => exact .inl ⟨p, w, m, h, by rw [hknown _ (by simp [h2]), hknown _ (by simp [h1])]⟩

theorem Writes.ghosts {part : Part} {g : State → State} (hg : Writes part g) (s : State) (p w m : Bool) (h : HazardSet) :
    (∃ p' w' m' h', g (s.withGhosts p w m h) = (g s).withGhosts p' w' m' h') ∨
      s.target.isSome = true ∧ ((g s).target = none ∨ (g (s.withGhosts p w m h)).target = none) := by
  cases hg with
  | frameSent n => left; cases n <;> exact ⟨_, _, _, _, rfl⟩
  | prologueMarked k =>
    exact marking_ghosts (fun s => flashHazards_eq s k) (fun s => flashHazards_known)
      (fun s => (Writes.prologueMarked k).target_none) s p w m h
  | writeMarked =>
    exact marking_ghosts writeEnableHazard_eq (fun s => writeEnableHazard_known)
      (fun s => Writes.writeMarked.target_none) s p w m h
  | instructionLoaded => exact .inl ⟨false, w, m, h, rfl⟩
  | passthroughEntered => exact .inl ⟨true, w, m, h, rfl⟩
  | waitSatisfied => exact .inl ⟨p, w, false, h, rfl⟩
  | _ => exact .inl ⟨p, w, m, h, rfl⟩

/-! ## Commands -/

/-- From states that differ in ghost fields alone a command comes to the same, ghost fields apart, or loses the target. -/
theorem Built.ghosts {α : Type} {K : List Part} {b : Bridge α} (hb : Built K b) :
    ∀ s p w m h, SameRun (b s) (b (s.withGhosts p w m h)) ∨ LosesTarget s (b s) (b (s.withGhosts p w m h)) := by
  induction hb with
  | pure | assert | raise => exact fun s p w m h => .inl ⟨p, w, m, h, rfl⟩
  | @look _ f hblind _ ih =>
    intro s p w m h
    show SameRun (f s s) (f (s.withGhosts p w m h) (s.withGhosts p w m h)) ∨
      LosesTarget s (f s s) (f (s.withGhosts p w m h) (s.withGhosts p w m h))
    rw [hblind]
    exact ih s s p w m h
  | goTo dst => exact fun s p w m h => .inl (tapGoTo_ghosts dst s p w m h)
  | shift tx n exit => exact fun s p w m h => .inl (tapShift_ghosts tx n exit s p w m h)
  | settle cycles => exact fun s p w m h => .inl (tapSettle_ghosts cycles s p w m h)
  | delay t => exact fun s p w m h => .inl ⟨p, w, m, h, rfl⟩
  | write _ hg =>
    intro s p w m h
    rcases hg.ghosts s p w m h with ⟨p', w', m', h', hsame⟩ | hlost
    · exact .inl ⟨p', w', m', h', congrArg (EStateM.Result.ok ()) hsame⟩
    · exact .inr hlost
  | @bind _ _ x f hx hf ihx ihf =>
    intro s p w m h
    have hkept := hx.target_none s
    rcases ihx s p w m h with ⟨p', w', m', h', hsame⟩ | ⟨hknown, hlost⟩
    · rw [bind_run, bind_run, hsame]
      cases hrun : x s with
      | error e t => exact .inl ⟨p', w', m', h', rfl⟩
      | ok a t =>
        rw [hrun] at hkept
        refine (ihf a t p' w' m' h').imp id fun ⟨hknown, hlost⟩ => ⟨?_, hlost⟩
        exact Option.isSome_iff_ne_none.mpr fun hs => by simp [show t.target = none from hkept hs] at hknown
    · have hstays : ∀ u, (endState (x u)).target = none → (endState ((x >>= f) u)).target = none := by
        intro u hu
        rw [bind_run]
        cases hrun : x u with
        | error e t => rw [hrun] at hu; exact hu
        | ok a t => rw [hrun] at hu; exact (hf a).target_none t hu
      exact .inr ⟨hknown, hlost.imp (hstays _) (hstays _)⟩
  | @stop _ _ g x _ hg hx ih =>
    intro s p w m h
    have hkept := hx.target_none s
    rcases ih s p w m h with ⟨p', w', m', h', hsame⟩ | ⟨hknown, hlost⟩
    · unfold onStop
      rw [hsame]
      cases hrun : x s with
      | ok a t => exact .inl ⟨p', w', m', h', rfl⟩
      | error e t =>
        rw [hrun] at hkept
        rcases hg.ghosts t p' w' m' h' with ⟨p₂, w₂, m₂, h₂, hwrite⟩ | ⟨hknown, hlost⟩
        · exact .inl ⟨p₂, w₂, m₂, h₂, congrArg (EStateM.Result.error e) hwrite⟩
        · refine .inr ⟨Option.isSome_iff_ne_none.mpr fun hs => ?_, hlost⟩
          simp [show t.target = none from hkept hs] at hknown
    · have hstays : ∀ u, (endState (x u)).target = none → (endState (onStop g x u)).target = none := by
        intro u hu
        unfold onStop
        cases hrun : x u with
        | ok a t => rw [hrun] at hu; exact hu
        | error e t => rw [hrun] at hu; exact hg.target_none hu
      exact .inr ⟨hknown, hlost.imp (hstays _) (hstays _)⟩

/-! ## Outcomes -/

/-- Two outcomes from states with the same target: the same, ghost fields apart, or not both know the target any more. -/
def SameOutcome (s : State) (o o' : Host.Outcome State Fault Refusal) : Prop :=
  eraseOutcome o = eraseOutcome o' ∨
    s.target.isSome = true ∧ ∀ u v, o = .next u → o' = .next v → u.target = none ∨ v.target = none

theorem commit_ghosts {b : Bridge Flow} (hb : Built macroParts b) (s : State) (p w m : Bool) (h : HazardSet) :
    SameOutcome s (commit b (s.withGhosts p w m h)) (commit b s) := by
  rcases hb.ghosts s p w m h with ⟨p', w', m', h', hsame⟩ | ⟨hknown, hlost⟩
  · left
    simp only [commit, hsame]
    cases b s with
    | ok a t => cases a <;> rfl
    | error e t => cases e <;> rfl
  · refine .inr ⟨hknown, fun u v hu hv => ?_⟩
    rw [commit_field State.target (fun _ _ => rfl) (fun _ _ => rfl) hu,
      commit_field State.target (fun _ _ => rfl) (fun _ _ => rfl) hv]
    exact hlost.symm

theorem execSessionOpen_ghosts (sel : List Byte) (s : State) (p w m : Bool) (h : HazardSet) :
    eraseOutcome (execSessionOpen sel (s.withGhosts p w m h)) = eraseOutcome (execSessionOpen sel s) := by
  by_cases hlen : sel.length ≤ s.cfg.maxXferBytes
  · rw [execSessionOpen_of_short hlen, execSessionOpen_of_short (s := s.withGhosts p w m h) hlen]
    cases hanswer : s.nextAnswer.ok with
    | true =>
      rw [openSession_of_ok sel hanswer, openSession_of_ok (s := s.withGhosts p w m h) sel hanswer, closeIfOpen_eq,
        closeIfOpen_eq]
      rfl
    | false =>
      rw [openSession_of_failed sel hanswer, openSession_of_failed (s := s.withGhosts p w m h) sel hanswer, closeIfOpen_eq,
        closeIfOpen_eq]
      rfl
  · rw [execSessionOpen_of_long hlen, execSessionOpen_of_long (s := s.withGhosts p w m h) hlen]
    rfl

theorem execSessionClose_ghosts (s : State) (p w m : Bool) (h : HazardSet) :
    eraseOutcome (execSessionClose (s.withGhosts p w m h)) = eraseOutcome (execSessionClose s) := by
  by_cases hsession : s.session = .closed
  · rw [execSessionClose, execSessionClose, commit_raised (cmdSessionClose_of_closed hsession),
      commit_raised (cmdSessionClose_of_closed (s := s.withGhosts p w m h) hsession)]
    rfl
  · rw [execSessionClose, execSessionClose, commit_ended (cmdSessionClose_of_open hsession),
      commit_ended (cmdSessionClose_of_open (s := s.withGhosts p w m h) hsession), closePort_eq, closePort_eq]
    rfl

theorem exec_ghosts (i : Instr) (s : State) (p w m : Bool) (h : HazardSet) :
    SameOutcome s (exec i (s.withGhosts p w m h)) (exec i s) := by
  by_cases hfast : i = .opFastRead
  · rw [hfast]
    exact .inl rfl
  cases hopen : i.isSessionOpen with
  | true =>
    cases i <;> cases hopen
    exact .inl (execSessionOpen_ghosts _ s p w m h)
  | false =>
    cases hclose : i.isSessionClose with
    | true =>
      cases i <;> cases hclose
      exact .inl (execSessionClose_ghosts s p w m h)
    | false =>
      obtain ⟨b, hb, heq⟩ := exec_eq_commit_built hopen hclose hfast
      rw [heq]
      exact commit_ghosts hb s p w m h

theorem resume_ghosts (t : Task) (s : State) (p w m : Bool) (h : HazardSet) :
    SameOutcome s (resume t (s.withGhosts p w m h)) (resume t s) :=
  commit_ghosts (built_resumeTask t) { s with task := none } p w m h

theorem step_ghosts (s : State) (p w m : Bool) (h : HazardSet) :
    SameOutcome s (step (s.withGhosts p w m h)) (step s) := by
  rcases Option.eq_none_or_eq_some s.task with htask | ⟨t, htask⟩
  · cases hinbox : s.inbox with
    | nil =>
      rw [step_of_idle htask hinbox, step_of_idle (s := s.withGhosts p w m h) htask hinbox]
      exact .inl rfl
    | cons x rest =>
      cases hdec : decode s.cfg s.irFamily x with
      | ok i =>
        rw [step_of_decode_ok htask hinbox hdec, step_of_decode_ok (s := s.withGhosts p w m h) htask hinbox hdec]
        exact exec_ghosts i { s with inbox := rest } p w m h
      | error e =>
        rw [step_of_decode_error htask hinbox hdec, step_of_decode_error (s := s.withGhosts p w m h) htask hinbox hdec]
        cases x <;> exact .inl rfl
  · rw [step_of_task htask, step_of_task (s := s.withGhosts p w m h) htask]
    exact resume_ghosts t s p w m h

theorem SameOutcome.erase_eq {s : State} {o o' : Host.Outcome State Fault Refusal} (h : SameOutcome s o o')
    (hs : s.target = none) : eraseOutcome o = eraseOutcome o' :=
  h.resolve_right fun ⟨hknown, _⟩ => by simp [hs] at hknown

theorem SameOutcome.next_eq {s u v : State} {o o' : Host.Outcome State Fault Refusal} (h : SameOutcome s o o')
    (hu : u.target.isSome = true) (hv : v.target.isSome = true) (ho : o = .next u) (ho' : o' = .next v) :
    u.eraseGhosts = v.eraseGhosts := by
  rcases h with hsame | ⟨-, hlost⟩
  · rw [ho, ho'] at hsame
    exact Host.Outcome.next.inj hsame
  · rcases hlost u v ho ho' with hnone | hnone
    · simp [hnone] at hu
    · simp [hnone] at hv

/-- Settles O19: no piece of a command looks at a ghost field, and what a mark does beside marking is to take the target
off. -/
theorem ghostsChangeNothingElse : Obligations.GhostsChangeNothingElse := by
  intro s p w m h ghosts
  refine ⟨fun hs => ⟨fun i => (exec_ghosts i s p w m h).erase_eq hs, fun t => (resume_ghosts t s p w m h).erase_eq hs,
    (step_ghosts s p w m h).erase_eq hs⟩, fun u v hu hv => ⟨fun i => ?_, fun t => ?_, ?_⟩⟩
  · exact (exec_ghosts i s p w m h).next_eq hu hv
  · exact (resume_ghosts t s p w m h).next_eq hu hv
  · exact (step_ghosts s p w m h).next_eq hu hv

end Sys2Proof.Machine
end

section
/-! SUPPORT. No primitive is called in a TAP state its precondition forbids (10_state.md R54): under well-formed parameters no
command, however it starts, ends in an assertion (log 20). And the statements. -/

namespace Sys2Proof.Machine

/-! ## Commands without a fault -/

/-- A command's end that is no fault; the parameters are the given ones if it goes on. -/
def SafeEnd {α : Type} (c : Cfg) : EStateM.Result Stop State α → Prop
  | .ok _ t => t.cfg = c
  | .error e _ => ∀ f, e ≠ .assert f

/-- A command that ends in no fault under the given parameters. -/
def Safe {α : Type} (c : Cfg) (b : Bridge α) : Prop := ∀ s, s.cfg = c → SafeEnd c (b s)

section
variable {α β : Type} {c : Cfg}

theorem Safe.bind {x : Bridge α} {f : α → Bridge β} (hx : Safe c x) (hf : ∀ a, Safe c (f a)) : Safe c (x >>= f) := by
  intro s hs
  have hend := hx s hs
  rw [bind_run]
  split
  next a t hrun =>
    rw [hrun] at hend
    exact hf a t hend
  next e t hrun =>
    rw [hrun] at hend
    exact hend

theorem Safe.look {f : State → Bridge α} (hf : ∀ s, s.cfg = c → Safe c (f s)) : Safe c (get >>= f) :=
  fun s hs => hf s hs s hs

theorem Safe.ite {p : Prop} [Decidable p] {x y : Bridge α} (hx : p → Safe c x) (hy : ¬p → Safe c y) :
    Safe c (if p then x else y) := by
  split
  · exact hx ‹_›
  · exact hy ‹_›

theorem Safe.onStop {g : State → State} {b : Bridge α} (hb : Safe c b) : Safe c (onStop g b) := by
  intro s hs
  have hend := hb s hs
  unfold Machine.onStop
  split <;> rw [‹b s = _›] at hend <;> exact hend

theorem safe_pure (a : α) : Safe c (pure a : Bridge α) := fun _ hs => hs
theorem safe_done (d : ResultData) : Safe c (done d) := fun _ hs => hs
theorem safe_raise (k : ResultKind) (r : Reason) : Safe c (raise k r : Bridge α) := fun _ _ => nofun
theorem safe_delay (t : Nat) : Safe c (delay t) := fun _ hs => hs

theorem Writes.cfg {p : Part} {g : State → State} (h : Writes p g) (s : State) : (g s).cfg = s.cfg := by
  cases h <;> simp [State.enterPhase]

theorem safe_write {p : Part} {g : State → State} (h : Writes p g) : Safe c (modify g : Bridge Unit) :=
  fun s hs => (h.cfg s).trans hs

/-! ## Primitives -/

theorem safe_tapGoTo (dst : TapState) : Safe c (tapGoTo dst) := by
  intro s hs
  rcases tapGoTo_cases dst s with ⟨-, h⟩ | ⟨-, -, h⟩ | ⟨-, -, -, h⟩ | ⟨-, -, -, h⟩ <;> rw [h]
  · exact nofun
  · exact hs
  · exact hs
  · exact nofun

/-- A shift in a shift state, with matching lengths (10_state.md R45). -/
theorem safeEnd_tapShift {tx : List Byte} {n : Nat} {exit : Bool} {s : State} (hs : s.cfg = c)
    (htap : s.tap = .shiftIr ∨ s.tap = .shiftDr) (hn : n = 8 * tx.length) : SafeEnd c (tapShift tx n exit s) := by
  rcases tapShift_cases tx n exit s with ⟨-, h⟩ | ⟨-, hreg, h⟩ | ⟨-, -, hlen, h⟩ | ⟨reg, -, -, -, -, h⟩ |
    ⟨reg, -, -, -, -, h⟩
  · rw [h]
    exact nofun
  · rcases htap with htap | htap <;> rw [htap] at hreg <;> cases hreg
  · exact absurd (by omega) hlen
  · rw [h]
    cases exit
    · exact hs
    · cases reg <;> exact hs
  · rw [h]
    exact nofun

/-- A move into a shift state, and a shift. -/
theorem safe_moveShift {dst : TapState} (hdst : dst = .shiftIr ∨ dst = .shiftDr) {tx : List Byte} {n : Nat} {exit : Bool}
    (hn : n = 8 * tx.length) {f : List Byte → Bridge α} (hf : ∀ rx, Safe c (f rx)) :
    Safe c (tapGoTo dst >>= fun _ => tapShift tx n exit >>= f) := by
  intro s hs
  have hmove := safe_tapGoTo dst s hs
  rw [bind_run]
  split
  next a t hrun =>
    rw [hrun] at hmove
    have htap := tap_of_tapGoTo_ok hrun
    have hshift : SafeEnd c (tapShift tx n exit t) := safeEnd_tapShift hmove (by rwa [htap]) hn
    rw [bind_run]
    split <;> rw [‹tapShift tx n exit t = _›] at hshift
    · exact hf _ _ hshift
    · exact hshift
  next e t hrun =>
    rw [hrun] at hmove
    exact hmove

theorem safe_moveShift_last {tx : List Byte} {n : Nat} {exit : Bool} (hn : n = 8 * tx.length) :
    Safe c (tapGoTo .shiftDr >>= fun _ => tapShift tx n exit) := by
  have h : Safe c (tapGoTo .shiftDr >>= fun _ => tapShift tx n exit >>= pure) := safe_moveShift (.inr rfl) hn safe_pure
  simpa only [bind_pure] using h

/-- A move to RUN_TEST_IDLE, and a settle (10_state.md R46). -/
theorem safe_moveSettle (cycles : Nat) {f : Unit → Bridge α} (hf : ∀ u, Safe c (f u)) :
    Safe c (tapGoTo .runTestIdle >>= fun _ => tapSettle cycles >>= f) := by
  intro s hs
  have hmove := safe_tapGoTo .runTestIdle s hs
  rw [bind_run]
  split
  next a t hrun =>
    rw [hrun] at hmove
    have htap := tap_of_tapGoTo_ok hrun
    rcases tapSettle_cases cycles t with ⟨-, h⟩ | ⟨-, hne, -⟩ | ⟨-, -, -, h⟩ | ⟨-, -, -, h⟩
    · rw [bind_of_error h]
      exact nofun
    · exact absurd htap hne
    · rw [bind_of_ok h]
      exact hf _ _ hmove
    · rw [bind_of_error h]
      exact nofun
  next e t hrun =>
    rw [hrun] at hmove
    exact hmove

/-! ## Checks and exchanges -/

theorem safe_require (b : Bool) (r : Reason) : Safe c (require b r) :=
  .ite (fun _ => safe_pure ()) fun _ => safe_raise _ _

theorem safe_checkSession : Safe c checkSession :=
  .look fun _ _ => .ite (fun _ => safe_raise _ _) fun _ => safe_pure ()

theorem safe_checks (lenOk : Bool) : Safe c (checks lenOk) :=
  safe_checkSession.bind fun _ => (safe_require _ _).bind fun _ =>
    .look fun _ _ => .ite (fun _ => safe_raise _ _) fun _ => safe_pure ()

theorem checks_false (s : State) : ∃ r, checks false s = .error (.raise .refused r) s := by
  unfold checks checkSession require
  by_cases h : s.session = .closed <;> simp [bind_run, h]

/-- What follows a length check may rely on it. -/
theorem Safe.checked {lenOk : Bool} {x : Unit → Bridge α} (hx : lenOk = true → ∀ u, Safe c (x u)) :
    Safe c (checks lenOk >>= x) := by
  cases lenOk with
  | true => exact (safe_checks true).bind (hx rfl)
  | false =>
    intro s _
    obtain ⟨r, h⟩ := checks_false s
    rw [bind_of_error h]
    exact nofun

theorem Safe.prologue {k : FlashKind} {lenOk : Bool} {x : Unit → Bridge α} (hx : lenOk = true → ∀ u, Safe c (x u)) :
    Safe c (flashPrologue k lenOk >>= x) := by
  unfold flashPrologue
  simp only [bind_assoc]
  exact .checked fun hlen _ => .look fun _ _ => (safe_require _ _).bind fun _ => (safe_write (.prologueMarked k)).bind (hx hlen)

theorem safe_cfgFamily : Safe c cfgFamily := by
  refine .look fun s _ => ?_
  cases s.dev with
  | none => exact safe_raise _ _
  | some d =>
    refine .ite (fun _ => ?_) fun _ => safe_pure _
    cases s.cfg.unknownPolicy with
    | refuse => exact safe_raise _ _
    | treatAsA => exact safe_pure _

theorem safe_irLoad (code : Byte) {len : Nat} (hlen : len = 8) : Safe c (irLoad code len) :=
  safe_moveShift (.inl rfl) (by simpa using hlen) fun _ => safe_write .instructionLoaded

theorem safe_drRead {bits : Nat} (hbits : 8 ∣ bits) : Safe c (drRead bits) :=
  safe_moveShift_last (by simp; omega)

theorem safe_sendParam (p : Option Byte) : Safe c (sendParam p) := by
  cases p with
  | none => exact safe_pure ()
  | some b => exact safe_moveShift (.inr rfl) rfl fun _ => safe_pure ()

theorem length_pos_of_xferLenOk {n : Nat} (h : xferLenOk c n = true) : 1 ≤ n := by
  simp only [xferLenOk, Bool.and_eq_true, decide_eq_true_eq] at h
  exact h.1

theorem ne_nil_of_pageLenOk {a : Addr} {data : List Byte} (h : pageLenOk c a data.length = true) : data ≠ [] := by
  simp only [pageLenOk, Bool.and_eq_true, decide_eq_true_eq] at h
  exact List.ne_nil_of_length_pos h.1

theorem safe_transactSPI {frame : List Byte} (hframe : frame ≠ []) : Safe c (transactSPI frame) := by
  have hassert : assertFrame frame = pure () := if_neg (by simpa using hframe)
  intro s hs
  unfold transactSPI
  rw [hassert]
  by_cases htap : s.tap = .shiftDr
  · have hshift : SafeEnd c (tapShift (revBuf frame) (8 * frame.length) true s) :=
      safeEnd_tapShift hs (.inr htap) (by simp)
    simp only [bind_run, pure_run, tapState_run, htap, ne_eq, not_true_eq_false, if_false]
    split <;> rw [‹tapShift _ _ _ s = _›] at hshift <;> exact hshift
  · have hmove : Safe c (tapGoTo .shiftDr >>= fun _ => tapShift (revBuf frame) (8 * frame.length) true >>= fun raw =>
        pure (revBuf raw)) := safe_moveShift (.inr rfl) (by simp) fun _ => safe_pure _
    have hrun := hmove s hs
    simp only [pure_bind]
    rw [bind_of_ok (tapState_run s), if_pos htap]
    exact hrun

theorem safe_streamSPI {frame : List Byte} (hframe : frame ≠ []) : Safe c (streamSPI frame) := by
  have hassert : assertFrame frame = pure () := if_neg (by simpa using hframe)
  unfold streamSPI
  rw [hassert]
  exact (safe_pure ()).bind fun _ => safe_moveShift (.inr rfl) (by simp) fun _ => safe_pure _

theorem safe_sendFrame (n : FlashName) (operands : List Byte) : Safe c (sendFrame n operands) :=
  .look fun _ _ => (safe_transactSPI (List.cons_ne_nil _ _)).bind fun _ => (safe_write (.frameSent n)).bind fun _ =>
    safe_pure _

theorem safe_sendHeader (n : FlashName) (a : Addr) : Safe c (sendHeader n a) :=
  .look fun _ _ => (safe_streamSPI (List.cons_ne_nil _ _)).bind fun _ => safe_pure ()

theorem safe_sendRegisterWrite (n : FlashName) (v : Byte) : Safe c (sendRegisterWrite n v) :=
  (safe_write .writeMarked).bind fun _ => (safe_sendFrame _ _).bind fun _ => safe_pure ()

theorem safe_sendPage (a : Addr) {data : List Byte} (hdata : data ≠ []) : Safe c (sendPage a data) :=
  (safe_sendHeader _ _).bind fun _ => (safe_transactSPI hdata).bind fun _ => safe_write (.frameSent .pp)

theorem safe_sendRdid : Safe c sendRdid :=
  .look fun _ _ => (safe_sendFrame _ _).bind fun _ => safe_pure _

theorem safe_openRead (a : Addr) : Safe c (openRead a) :=
  (safe_sendHeader _ _).bind fun _ => safe_write .readOpened

theorem safe_readFill {n : Nat} (hn : 1 ≤ n) : Safe c (readFill n) :=
  safe_streamSPI (List.ne_nil_of_length_pos (by rwa [List.length_replicate]))

theorem safe_waitRound (cmd : WaitCmd) (polls : Nat) : Safe c (waitRound cmd polls) := by
  have hpoll : Safe c (waitPoll polls) := by
    rw [waitPoll_eq]
    refine (safe_sendFrame _ _).onStop.bind fun _ => .look fun _ _ => .ite (fun _ => ?_) fun _ => ?_
    · exact (safe_write .waitSatisfied).bind fun _ => safe_pure _
    · exact (safe_write (.pollCounted _)).bind fun _ => (safe_delay _).bind fun _ => safe_pure _
  refine hpoll.bind fun p => ?_
  cases p with
  | satisfied n =>
    cases cmd with
    | wait => exact safe_done _
    | unprotect => exact (safe_sendFrame _ _).bind fun _ => safe_done _
  | unsatisfied n => exact safe_pure _

theorem safe_startWait (cmd : WaitCmd) : Safe c (startWait cmd) :=
  (safe_write (.pollCounted 0)).bind fun _ => safe_waitRound cmd 0

/-! ## Commands -/

theorem safe_cmdReadIdcode (hwf : c.Wf) : Safe c cmdReadIdcode :=
  (safe_checks true).bind fun _ => .look fun _ hs => (safe_irLoad _ (hs ▸ irLen_eq hwf .familyA)).bind fun _ =>
    (safe_drRead (by decide)).bind fun _ => (safe_write (.deviceRead _)).bind fun _ => safe_done _

theorem safe_cmdReadStatus (hwf : c.Wf) : Safe c cmdReadStatus :=
  (safe_checks true).bind fun _ => safe_cfgFamily.bind fun f => .look fun _ hs =>
    (safe_irLoad _ (hs ▸ irLen_eq hwf f)).bind fun _ => (safe_drRead (hs ▸ statusBits_dvd hwf f)).bind fun _ =>
      safe_done _

theorem safe_simpleCfg (hwf : c.Wf) (n : IrName) : Safe c (simpleCfg n) :=
  (safe_checks true).bind fun _ => safe_cfgFamily.bind fun f => .look fun _ hs =>
    (safe_irLoad _ (hs ▸ irLen_eq hwf f)).bind fun _ => (safe_sendParam _).bind fun _ =>
      safe_moveSettle _ fun _ => safe_done _

/-- A flash command without a length check. -/
theorem safe_flash {k : FlashKind} {x : Bridge α} (hx : Safe c x) (d : α → ResultData) : Safe c (do
      flashPrologue k true
      let a ← x
      done (d a)) := .prologue fun _ _ => hx.bind fun _ => safe_done _

theorem safe_eraseFrames (n : FlashName) (operands : List Byte) : Safe c (eraseFrames n operands) :=
  .prologue fun _ _ => (safe_sendFrame _ _).bind fun _ => (safe_sendFrame _ _).bind fun _ => safe_done _

/-- The commands a macro may run, and no other (45_orchestrator.md; log 20). -/
theorem safe_subCommand (hwf : c.Wf) {i : Instr} (hi : i.isSubCommand = true) : Safe c (subCommand i) := by
  cases i with
  | spiXfer data =>
    exact .look fun _ _ => .checked fun hlen _ => (safe_transactSPI (ne_nil_of_xferLenOk hlen)).bind fun _ =>
      (safe_write .readEnded).bind fun _ => safe_done _
  | spiStream data =>
    exact .look fun _ _ => .checked fun hlen _ => (safe_streamSPI (ne_nil_of_xferLenOk hlen)).bind fun _ => safe_done _
  | spiEnd => exact (safe_checks _).bind fun _ => (safe_tapGoTo _).bind fun _ => safe_done _
  | readIdcode => exact safe_cmdReadIdcode hwf
  | readStatus => exact safe_cmdReadStatus hwf
  | fWren | fWrdi => exact safe_flash (safe_sendFrame _ _) fun _ => .none
  | fRdsr1 | fRdsr2 | fRdsr3 => exact safe_flash (safe_sendFrame _ _) fun rx => .byte (registerByte rx)
  | fWrsr1 v | fWrsr2 v | fWrsr3 v => exact safe_flash (safe_sendRegisterWrite _ v) fun _ => .none
  | fCe | fSe4k a | fBe32k a | fBe64k a => exact safe_eraseFrames _ _
  | fPp a data =>
    exact .look fun _ _ => .prologue fun hlen _ => (safe_sendFrame _ _).bind fun _ =>
      (safe_sendPage a (ne_nil_of_pageLenOk hlen)).bind fun _ => safe_done _
  | fRdid => exact safe_flash safe_sendRdid .bytes
  | fRead a => exact safe_flash (safe_openRead a) fun _ => .none
  | fContRead n =>
    exact .look fun _ _ => .prologue fun hlen _ => (safe_readFill (length_pos_of_xferLenOk hlen)).bind fun _ =>
      safe_done _
  | fWait => exact .prologue fun _ _ => safe_startWait _
  | fUnprotect => exact .prologue fun _ _ => (safe_sendRegisterWrite _ _).bind fun _ => safe_startWait _
  | fReset =>
    obtain ⟨-, -, -, -, -, -, -, hframe⟩ := hwf
    exact .prologue fun _ _ => .look fun _ hs => (safe_transactSPI (hs ▸ hframe)).bind fun _ => safe_done _
  | cEnable | cErase | cDisable | cResetCrc | cRefresh => exact safe_simpleCfg hwf _
  | cBurst =>
    exact (safe_checks true).bind fun _ => safe_cfgFamily.bind fun f => .look fun _ hs =>
      (safe_irLoad _ (hs ▸ irLen_eq hwf f)).bind fun _ => (safe_tapGoTo _).bind fun _ =>
        (safe_write .burstOpened).bind fun _ => safe_done _
  | cBurstData data =>
    exact .look fun _ _ => (safe_checks _).bind fun _ => .look fun _ _ => (safe_require _ _).bind fun _ =>
      safe_moveShift (.inr rfl) (by simp) fun _ => safe_done _
  | cPassthrough =>
    exact (safe_checks true).bind fun _ => safe_cfgFamily.bind fun f => .look fun _ hs =>
      (safe_irLoad _ (hs ▸ irLen_eq hwf f)).bind fun _ =>
        safe_moveShift (.inr rfl) (by rw [hs, unlock_length hwf]) fun _ => (safe_tapGoTo _).bind fun _ =>
          (safe_write .passthroughEntered).bind fun _ => safe_done _
  | _ => contradiction

/-- A bare frame: the checks, a part of its own, and its result. -/
theorem safe_row {x : Bridge α} (hx : Safe c x) (d : α → ResultData) : Safe c (do
      checks true
      let a ← x
      done (d a)) := (safe_checks true).bind fun _ => hx.bind fun _ => safe_done _

theorem safe_irRow (hwf : c.Wf) (n : IrName) : Safe c (irRow n) :=
  (safe_checks true).bind fun _ => safe_cfgFamily.bind fun f => .look fun _ hs =>
    (safe_irLoad _ (hs ▸ irLen_eq hwf f)).bind fun _ => safe_done _

/-! ## Macros -/

theorem safe_continueMacro {e : Expansion} (h : ∀ n, Safe c (runPlan e.kind e.rest n)) (r : Flow) :
    Safe c (continueMacro e r) := by
  cases r with
  | waiting t => exact safe_pure _
  | ended kind d => exact (safe_write (.subCommandEnded kind d)).bind fun _ => h _

/-- An expansion that holds only sub-commands. -/
theorem safe_runPlan (hwf : c.Wf) (k : MacroKind) : ∀ (items : List PlanItem), PlanOk items → ∀ n, Safe c (runPlan k items n) := by
  intro items
  induction items with
  | nil =>
    exact fun _ n => (safe_write (.phaseEntered .done)).bind fun _ => .look fun _ _ =>
      (safe_write (.phaseEntered .idle)).bind fun _ => safe_pure _
  | cons item rest ih =>
    intro hok n
    cases item with
    | enter o =>
      rw [runPlan_enter]
      exact (safe_write (.phaseEntered o)).bind fun _ => ih hok n
    | sub i keep =>
      obtain ⟨hi, hrest⟩ := List.forall_mem_cons.mp hok
      rw [runPlan_sub]
      exact (safe_subCommand hwf hi).bind (safe_continueMacro (ih hrest))
    | statusIfKnown =>
      obtain ⟨-, hrest⟩ := List.forall_mem_cons.mp hok
      rw [runPlan_statusIfKnown]
      exact .look fun _ _ => .ite (fun _ => (safe_cmdReadStatus hwf).bind (safe_continueMacro (ih hrest))) fun _ =>
        ih hrest n

theorem Safe.idleOnStop {b : Bridge Flow} (h : Safe c b) : Safe c (idleOnStop b) := by
  rw [idleOnStop_eq]
  exact h.onStop

theorem safe_runMacro (hwf : c.Wf) (k : MacroKind) {items : List PlanItem} (h : PlanOk items) : Safe c (runMacro k items) :=
  (safe_runPlan hwf k items h {}).idleOnStop

theorem safe_resumeTask (hwf : c.Wf) {t : Task} (h : ∀ e, t.outer = some e → PlanOk e.rest) : Safe c (resumeTask t) := by
  obtain ⟨polls, cmd, outer⟩ := t
  cases outer with
  | none => exact safe_waitRound cmd polls
  | some e =>
    exact ((safe_waitRound cmd polls).bind (safe_continueMacro (safe_runPlan hwf e.kind e.rest (h e rfl)))).idleOnStop

end

/-! ## The sub-commands of the expansions -/

/-- Something holds of every sub-command of an expansion. -/
def AllSub (P : Instr → Prop) (items : List PlanItem) : Prop := ∀ i ∈ subCommands items, P i

section
variable {P : Instr → Prop}

theorem allSub_append {a b : List PlanItem} : AllSub P (a ++ b) ↔ AllSub P a ∧ AllSub P b := by
  simp [AllSub, subCommands_append, or_imp, forall_and]

theorem allSub_flatMap {β : Type} {l : List β} {f : β → List PlanItem} (h : ∀ x ∈ l, AllSub P (f x)) :
    AllSub P (l.flatMap f) := by
  intro i hi
  rw [subCommands_flatMap] at hi
  obtain ⟨x, hx, hi⟩ := List.mem_flatMap.mp hi
  exact h x hx i hi

theorem allSub_map {β : Type} {l : List β} {f : β → PlanItem} (h : ∀ x ∈ l, AllSub P [f x]) : AllSub P (l.map f) := by
  rw [List.map_eq_flatMap]
  exact allSub_flatMap h

theorem allSub_ite {p : Prop} [Decidable p] {a b : List PlanItem} (ha : AllSub P a) (hb : AllSub P b) :
    AllSub P (if p then a else b) := by
  split
  · exact ha
  · exact hb

theorem allSub_nil : AllSub P [] := nofun

theorem allSub_sub {i : Instr} {keep : Keep} {rest : List PlanItem} (hi : P i) (h : AllSub P rest) :
    AllSub P (.sub i keep :: rest) := List.forall_mem_cons.mpr ⟨hi, h⟩

/-- The sub-commands of expansions that have no operands. -/
def plainCommands : List Instr :=
  [.readIdcode, .readStatus, .cEnable, .cErase, .cDisable, .cResetCrc, .cBurst, .cRefresh, .cPassthrough, .fReset, .fRdid,
    .fRdsr1, .fWren, .fUnprotect, .fCe, .fWait, .spiEnd]

/-- What has to hold of the sub-commands of a macro's loops. -/
def LoopCommands (P : Instr → Prop) (c : Cfg) : Instr → Prop
  | .mLoadSram data _ => ∀ d ∈ sramChunks c data, P (.cBurstData d)
  | .mProgram offset _ data _ =>
    (∀ p ∈ pagePieces c offset data, P (.fPp (BitVec.ofNat 24 p.1) p.2)) ∧
      ∀ p ∈ verifyChunks c offset data, P (.fContRead (BitVec.ofNat 32 p.2.length))
  | .mRead _ len _ => ∀ n ∈ readSizes c len.toNat, P (.fContRead (BitVec.ofNat 32 n))
  | .mVerify offset data _ => ∀ p ∈ verifyChunks c offset data, P (.fContRead (BitVec.ofNat 32 p.2.length))
  | _ => True

/-- The sub-commands of an expansion: those without operands, the erase commands and read headers, and those of its loops. -/
theorem allSub_expansion {c : Cfg} {i : Instr} {k : MacroKind} {items : List PlanItem}
    (hplain : ∀ i ∈ plainCommands, P i) (herase : ∀ g a, P (eraseCmd g a)) (hread : ∀ a, P (.fRead a))
    (hloops : LoopCommands P c i) (h : i.expansion c = some (k, items)) : AllSub P items := by
  have hfixed : ∀ {items}, (∀ i ∈ subCommands items, i ∈ plainCommands) → AllSub P items := fun hall i hi => hplain i (hall i hi)
  have hidentify : AllSub P identifyPhase := hfixed (by decide)
  have hentry : AllSub P flashEntry := hfixed (by decide)
  have hwait : AllSub P [runIt .fWait] := hfixed (by decide)
  have hend : AllSub P [runIt .spiEnd] := hfixed (by decide)
  have hrefresh : ∀ opts, AllSub P (refreshPhase opts) := fun opts => allSub_ite (hfixed (by decide)) allSub_nil
  have hrange : ∀ offset length g, AllSub P (eraseRange c offset length g) := fun _ _ g =>
    allSub_flatMap fun _ _ => allSub_sub (herase g _) hwait
  have hverify : ∀ {offset data}, (∀ p ∈ verifyChunks c offset data, P (.fContRead (BitVec.ofNat 32 p.2.length))) →
      AllSub P (verifyLoop c offset data) := fun hchunks =>
    allSub_flatMap fun p hp => allSub_sub (hread _) (allSub_sub (hchunks p hp) hend)
  cases i with
  | mIdentify => cases h; exact hidentify
  | mProbe opts =>
    cases h
    simp only [planProbe, allSub_append]
    exact ⟨⟨⟨⟨hidentify, allSub_nil⟩, hentry⟩, hfixed (by decide)⟩, hrefresh _⟩
  | mLoadSram data opts =>
    cases h
    simp only [planLoadSram, allSub_append]
    exact ⟨⟨⟨⟨hidentify, hfixed (by decide)⟩, allSub_map fun d hd => allSub_sub (hloops d hd) allSub_nil⟩,
      hfixed (by decide)⟩, hrefresh _⟩
  | mProgram offset gran data opts =>
    cases h
    obtain ⟨hpieces, hchunks⟩ := hloops
    simp only [planProgram, allSub_append]
    refine ⟨⟨⟨⟨⟨⟨⟨hidentify, allSub_nil⟩, hentry⟩, allSub_ite (hfixed (by decide)) allSub_nil⟩, ?_⟩, ?_⟩,
      allSub_ite allSub_nil (hverify hchunks)⟩, hrefresh _⟩
    · exact allSub_ite (hfixed (by decide)) (allSub_ite allSub_nil (hrange _ _ _))
    · exact allSub_flatMap fun p hp => allSub_sub (hpieces p hp) hwait
  | mRead offset len opts =>
    cases h
    simp only [planRead, allSub_append]
    refine ⟨⟨⟨⟨hidentify, allSub_nil⟩, hentry⟩, allSub_ite allSub_nil (allSub_append.mpr ⟨?_, hend⟩)⟩, hrefresh _⟩
    exact allSub_sub (hread _) (allSub_map fun n hn => allSub_sub (hloops n hn) allSub_nil)
  | mErase offset len gran opts =>
    cases h
    simp only [planErase, allSub_append]
    exact ⟨⟨⟨⟨hidentify, allSub_nil⟩, hentry⟩, hrange _ _ _⟩, hrefresh _⟩
  | mVerify offset data opts =>
    cases h
    simp only [planVerify, allSub_append]
    exact ⟨⟨⟨⟨hidentify, allSub_nil⟩, hentry⟩, hverify hloops⟩, hrefresh _⟩
  | _ => cases h

end

/-- Every expansion of a macro holds only sub-commands (45_orchestrator.md). -/
theorem planOk_expansion {c : Cfg} {i : Instr} {k : MacroKind} {items : List PlanItem}
    (h : i.expansion c = some (k, items)) : PlanOk items := by
  refine allSub_expansion (P := fun i => i.isSubCommand = true) (List.all_eq_true.mp rfl) (fun g a => ?_) (fun _ => rfl) ?_ h
  · cases g <;> rfl
  · cases i with
    | mLoadSram | mRead | mVerify => exact fun _ _ => rfl
    | mProgram => exact ⟨fun _ _ => rfl, fun _ _ => rfl⟩
    | _ => exact trivial

/-! ## Instructions and steps -/

theorem commit_ne_fault {b : Bridge Flow} {s : State} (h : Safe s.cfg b) (f : Fault) : commit b s ≠ .fault f := by
  intro hfault
  have hend := h s rfl
  rcases commit_cases b s with ⟨k, d, t, -, hc⟩ | ⟨w, t, -, hc⟩ | ⟨k, r, t, -, hc⟩ | ⟨f', t, hrun, -⟩
  · cases hc.symm.trans hfault
  · cases hc.symm.trans hfault
  · cases hc.symm.trans hfault
  · rw [hrun] at hend
    exact hend f' rfl

/-- A macro ends in no fault: its validation refuses it, or its expansion runs. -/
theorem exec_macro_ne_fault {i : Instr} {s : State} (hwf : s.cfg.Wf) (hmacro : i.isMacro = true) (f : Fault) :
    exec i s ≠ .fault f := by
  obtain ⟨k, items, hitems⟩ := exists_expansion hmacro s.cfg
  cases hr : s.earlyRefusal (i.operandRefusal s.cfg) with
  | none =>
    rw [exec_macro_run hitems hr]
    exact commit_ne_fault (safe_runMacro hwf k (planOk_expansion hitems)) f
  | some r =>
    rw [exec_macro_refused hmacro hr]
    exact nofun

theorem exec_ne_fault (i : Instr) {s : State} (hwf : s.cfg.Wf) (f : Fault) : exec i s ≠ .fault f := by
  by_cases hsub : i.isSubCommand = true
  · rw [exec_eq_commit_subCommand hsub]
    exact commit_ne_fault (safe_subCommand hwf hsub) f
  by_cases hmacro : i.isMacro = true
  · exact exec_macro_ne_fault hwf hmacro f
  cases i with
  | sessionOpen sel => exact nofun
  | sessionClose =>
    have hclose : Safe s.cfg (modify fun s => { s.closePort with session := .closed }) := fun u hu =>
      (State.closePort_cfg u).trans hu
    exact commit_ne_fault (safe_checkSession.bind fun _ => hclose.bind fun _ => safe_done _) f
  | opWren | opWrdi | opCe | opSe4k a | opBe32k a | opBe64k a =>
    exact commit_ne_fault (safe_row (safe_sendFrame _ _) fun _ => .none) f
  | opRdsr1 | opRdsr2 | opRdsr3 => exact commit_ne_fault (safe_row (safe_sendFrame _ _) fun rx => .byte (registerByte rx)) f
  | opWrsr1 v | opWrsr2 v | opWrsr3 v => exact commit_ne_fault (safe_row (safe_sendRegisterWrite _ v) fun _ => .none) f
  | opPp a data =>
    exact commit_ne_fault (b := cmdOpPp a data) (.look fun _ _ => .checked fun hlen _ => (safe_sendPage a (ne_nil_of_pageLenOk hlen)).bind
      fun _ => safe_done _) f
  | opRdid => exact commit_ne_fault (safe_row safe_sendRdid .bytes) f
  | opFastRead => exact nofun
  | opRead a count =>
    exact commit_ne_fault (b := cmdOpRead a count) (.look fun _ _ => (safe_checks _).bind fun _ => (safe_openRead a).bind fun _ =>
      .ite (fun _ => safe_done _) fun hcount => (safe_readFill (by omega)).bind fun _ => safe_done _) f
  | irIdcode =>
    exact commit_ne_fault (b := cmdIrIdcode) ((safe_checks _).bind fun _ => .look fun _ hs =>
      (safe_irLoad _ (hs ▸ irLen_eq hwf .familyA)).bind fun _ => safe_done _) f
  | irStatus | irEnable | irErase | irDisable | irResetCrc | irBurst | irRefresh | irPassthrough =>
    exact commit_ne_fault (safe_irRow hwf _) f
  | _ => contradiction

/-- Settles O23: no command faults under well-formed parameters, and what is left of a macro holds only sub-commands. -/
theorem stepNeverFaults : Obligations.StepNeverFaults := by
  rintro s f ⟨hwf, -, -, -, htaskInv, -, -⟩
  rcases Option.eq_none_or_eq_some s.task with htask | ⟨t, htask⟩
  · cases hinbox : s.inbox with
    | nil =>
      rw [step_of_idle htask hinbox]
      exact nofun
    | cons x rest =>
      cases hdec : decode s.cfg s.irFamily x with
      | ok i =>
        rw [step_of_decode_ok htask hinbox hdec]
        exact exec_ne_fault i (s := { s with inbox := rest }) hwf f
      | error e =>
        rw [step_of_decode_error htask hinbox hdec]
        cases x <;> exact nofun
  · rw [step_of_task htask]
    exact commit_ne_fault (s := { s with task := none }) (safe_resumeTask hwf fun e he => htaskInv t e htask he) f

end Sys2Proof.Machine
end

section
/-! SUPPORT. What every step keeps (10_state.md R38, R39, R52; 45_orchestrator.md R280; 60_exceptions.md R334): where the
streamed reads and bursts are open and what the reference target is, update by update; the debounce counter, the
orchestrator's phase and what is left of a macro, by how a command leaves off. And the statements. -/

namespace Sys2Proof.Machine

/-! ## Update by update -/

theorem Update.streamsInv {s t : State} (h : Update s t) (hs : s.StreamsInv) : t.StreamsInv := by
  obtain ⟨hread, hburst⟩ := hs
  cases h with
  | moved dst =>
    refine ⟨fun hopen => ?_, fun hopen => ?_⟩
    · simp only [State.arrive_rdOpen, Bool.and_eq_true, Bool.not_eq_true'] at hopen
      obtain ⟨hopen, hstay⟩ := hopen
      simp [endsDrStay, show s.tap = .shiftDr from hread hopen] at hstay
    · simp only [State.arrive_burstOpen, Bool.and_eq_true, Bool.not_eq_true'] at hopen
      obtain ⟨hopen, hstay⟩ := hopen
      rcases hburst hopen with htap | htap <;> simp [endsDrStay, htap] at hstay
      exact .inl hstay
  | shifted reg tx n exit _ hreg =>
    cases exit with
    | false => exact ⟨hread, hburst⟩
    | true =>
      cases reg with
      | dr => exact ⟨nofun, nofun⟩
      | ir =>
        refine ⟨fun hopen => ?_, fun hopen => ?_⟩
        · rw [hread hopen] at hreg
          cases hreg
        · rcases hburst hopen with htap | htap <;> rw [htap] at hreg <;> cases hreg
  | burstOpened htap => exact ⟨hread, fun _ => .inr htap⟩
  | readOpened htap => exact ⟨fun _ => htap, hburst⟩
  | readEnded => exact ⟨nofun, hburst⟩
  | _ => simpa [State.StreamsInv, State.enterPhase] using And.intro hread hburst

theorem Update.memInv {s t : State} (h : Update s t) (hs : s.MemInv) : t.MemInv := by
  cases h with
  | moved dst =>
    intro after ha
    obtain ⟨before, hb, rfl⟩ := Option.map_eq_some_iff.mp ha
    exact onGoTo_wf _ (hs before hb) _ _
  | shifted reg tx n exit =>
    intro after ha
    have ha : (s.target.map fun t => t.onShift s.cfg reg tx exit) = some after := by
      cases exit <;> simpa using ha
    obtain ⟨before, hb, rfl⟩ := Option.map_eq_some_iff.mp ha
    exact onShift_wf _ (hs before hb) _ _ _
  | prologueMarked k =>
    intro after ha
    rw [flashHazards_known (by simp [ha])] at ha
    exact hs after ha
  | writeMarked =>
    intro after ha
    rw [writeEnableHazard_known (by rw [ha]; rfl)] at ha
    exact hs after ha
  | frameSent n => exact fun after ha => hs after (by simpa using ha)
  | _ => exact hs

/-- What the updates of a command keep of the invariant. -/
def State.Steady (s : State) : Prop := s.cfg.Wf ∧ s.StreamsInv ∧ s.HazardInv ∧ s.MemInv

theorem Updates.steady {s t : State} (h : Updates s t) (hs : s.Steady) : t.Steady := by
  obtain ⟨hwf, hstreams, hhazard, hmem⟩ := hs
  refine ⟨h.keepsPorts.cfg ▸ hwf, ?_, fun hknown => ?_, ?_⟩
  · induction h with
    | refl => exact hstreams
    | tail _ hlast ih => exact hlast.streamsInv ih
  · obtain ⟨hhz, hbefore⟩ := h.keepsMarks.2 hknown
    exact hhz.trans (hhazard hbefore)
  · induction h with
    | refl => exact hmem
    | tail _ hlast ih => exact hlast.memInv ih

/-! ## How a command leaves off -/

/-- A sub-command's end from a phase of the orchestrator: the phase stays, the debounce counter is 0 outside a wait and below
`READY_DEBOUNCE` inside one (10_state.md R52). -/
def LeavesPhase (o : OrchState) : EStateM.Result Stop State Flow → Prop
  | .ok (.ended _ _) t => t.orch = o ∧ t.rdyCount = 0
  | .ok (.waiting w) t => t.orch = o ∧ t.rdyCount < t.cfg.readyDebounce ∧ w.outer = none
  | .error _ t => t.orch = o ∧ t.rdyCount = 0

/-- A macro's end: the orchestrator is Idle unless the macro waits, and then what is left of it is an expansion
(45_orchestrator.md R280). -/
def LeavesMacro : EStateM.Result Stop State Flow → Prop
  | .ok (.ended _ _) t => t.orch = .idle ∧ t.rdyCount = 0
  | .ok (.waiting w) t => t.rdyCount < t.cfg.readyDebounce ∧ ∃ e, w.outer = some e ∧ PlanOk e.rest
  | .error _ t => t.orch = .idle ∧ t.rdyCount = 0

section
variable {α : Type} {K : List Part} {b : Bridge α}

theorem Built.orch (h : Built K b) (hK : .phase ∉ K) (s : State) : (endState (b s)).orch = s.orch := by
  refine h.keeps State.orch ?_ ?_ s
  · rintro s t ⟨_, _, _, _, _, _, _, _, -, rfl⟩; rfl
  · intro p hp g hg s
    cases hg with
    | phaseEntered | subCommandEnded => exact absurd hp hK
    | _ => simp

theorem Built.rdyCount (h : Built K b) (hK : .counter ∉ K) (s : State) : (endState (b s)).rdyCount = s.rdyCount := by
  refine h.keeps State.rdyCount ?_ ?_ s
  · rintro s t ⟨_, _, _, _, _, _, _, _, -, rfl⟩; rfl
  · intro p hp g hg s
    cases hg with
    | pollCounted | waitSatisfied => exact absurd hp hK
    | _ => simp [State.enterPhase]

end

theorem leavesPhase_of_ends {b : Bridge Flow} (hb : Built commandParts b) (hends : Ends b) {s : State}
    (hcount : s.rdyCount = 0) : LeavesPhase s.orch (b s) := by
  have horch := hb.orch (by decide) s
  have hrdy := (hb.rdyCount (by decide) s).trans hcount
  cases hrun : b s with
  | ok f t =>
    obtain ⟨d, rfl⟩ := hends s f t hrun
    rw [hrun] at horch hrdy
    exact ⟨horch, hrdy⟩
  | error e t =>
    rw [hrun] at horch hrdy
    exact ⟨horch, hrdy⟩

/-- One round of a wait (43_flash_commands.md R218). -/
theorem leavesPhase_waitRound (cmd : WaitCmd) (polls : Nat) {s : State} (hcount : s.rdyCount < s.cfg.readyDebounce) :
    LeavesPhase s.orch (waitRound cmd polls s) := by
  have hsend : Built [.frame] (sendFrame .rdsr1 [0x00]) := built_sendFrame (by decide) _ _
  have horch := hsend.orch (by decide) s
  have hrdy := hsend.rdyCount (by decide) s
  have hcfg := (sendFrame_updates .rdsr1 [0x00] s).keepsPorts.cfg
  cases hrun : sendFrame .rdsr1 [0x00] s with
  | error e u =>
    rw [hrun] at horch
    rw [waitRound_failed cmd (waitPoll_failed polls hrun)]
    exact ⟨horch, rfl⟩
  | ok rx u =>
    rw [hrun] at horch hrdy hcfg
    by_cases hready : debounce u.rdyCount (!(registerByte rx).getLsbD u.cfg.busyBit) = u.cfg.readyDebounce
    · rw [waitRound_satisfied cmd (waitPoll_satisfied polls hrun hready)]
      rw [← show u.orch = s.orch from horch]
      have hafter : Built commandParts (afterWait cmd (polls + 1)) := built_afterWait (by decide) _ _
      refine leavesPhase_of_ends (s := { u with rdyCount := 0, mustPoll := false }) hafter ?_ rfl
      cases cmd with
      | wait => exact ends_done _
      | unprotect => exact ends_part _ _
    · rw [waitRound_unsatisfied cmd (waitPoll_unsatisfied polls hrun hready)]
      refine ⟨horch, ?_, rfl⟩
      have hrdy : u.rdyCount = s.rdyCount := hrdy
      have hcfg : u.cfg = s.cfg := hcfg
      have hle : debounce u.rdyCount (!(registerByte rx).getLsbD u.cfg.busyBit) ≤ s.rdyCount + 1 := by
        rw [debounce_not, hrdy]
        split <;> omega
      have hlt : debounce u.rdyCount (!(registerByte rx).getLsbD u.cfg.busyBit) < u.cfg.readyDebounce := by
        rw [hcfg] at hready hle ⊢
        omega
      exact hlt

theorem leavesPhase_startWait (cmd : WaitCmd) {s : State} (hwf : s.cfg.Wf) : LeavesPhase s.orch (startWait cmd s) := by
  rw [startWait_run]
  exact leavesPhase_waitRound (s := { s with rdyCount := 0 }) cmd 0 (one_le_readyDebounce hwf)

/-- A part that neither polls nor moves the orchestrator, and then the rest. -/
theorem LeavesPhase.after {α : Type} {K : List Part} {x : Bridge α} {f : α → Bridge Flow} (hx : Built K x)
    (hphase : .phase ∉ K) (hcounter : .counter ∉ K) (hupdates : MakesUpdates x) {s : State} (hwf : s.cfg.Wf)
    (hcount : s.rdyCount = 0)
    (hf : ∀ a t, t.cfg.Wf → LeavesPhase t.orch (f a t)) : LeavesPhase s.orch ((x >>= f) s) := by
  have horch := hx.orch hphase s
  have hrdy := (hx.rdyCount hcounter s).trans hcount
  have hcfg := (hupdates s).keepsPorts.cfg
  rw [bind_run]
  cases hrun : x s with
  | ok a t =>
    rw [hrun] at horch hcfg
    rw [← show t.orch = s.orch from horch]
    have hcfg : t.cfg = s.cfg := hcfg
    exact hf a t (hcfg ▸ hwf)
  | error e t =>
    rw [hrun] at horch hrdy
    exact ⟨horch, hrdy⟩

theorem leavesPhase_subCommand (i : Instr) {s : State} (hwf : s.cfg.Wf) (hcount : s.rdyCount = 0) :
    LeavesPhase s.orch (subCommand i s) := by
  by_cases hwait : i = .fWait
  · subst hwait
    exact .after (built_flashPrologue (K := [.mark]) (by decide) .poll true) (by decide) (by decide)
      (flashPrologue_updates _ _) hwf hcount fun _ _ ht => leavesPhase_startWait _ ht
  by_cases hunprotect : i = .fUnprotect
  · subst hunprotect
    have hwrite : Built [.mark, .frame] (flashPrologue .plain true >>= fun _ => sendRegisterWrite .wrsr1 0x00) :=
      (built_flashPrologue (by decide) _ _).bind fun _ => built_sendRegisterWrite (by decide) (by decide) _ _
    have h : LeavesPhase s.orch (((flashPrologue .plain true >>= fun _ => sendRegisterWrite .wrsr1 0x00) >>= fun _ =>
        startWait .unprotect) s) :=
      .after hwrite (by decide) (by decide) ((flashPrologue_updates _ _).bind fun _ => sendRegisterWrite_updates _ _) hwf hcount
        fun _ _ ht => leavesPhase_startWait _ ht
    rw [bind_assoc] at h
    exact h
  · exact leavesPhase_of_ends (built_command hwait hunprotect) (ends_command hwait hunprotect) hcount

/-! ## Macros -/

/-- The end of an expansion before `idleOnStop`: where it stops, the phase is still the macro's. -/
def LeavesPlan : EStateM.Result Stop State Flow → Prop
  | .ok (.ended _ _) t => t.orch = .idle ∧ t.rdyCount = 0
  | .ok (.waiting w) t => t.rdyCount < t.cfg.readyDebounce ∧ ∃ e, w.outer = some e ∧ PlanOk e.rest
  | .error _ t => t.rdyCount = 0

/-- A sub-command, or a round of the wait it is in, and then the rest of the expansion. -/
theorem LeavesPhase.continue {o : OrchState} {x : Bridge Flow} {e : Expansion} {s : State} (hx : LeavesPhase o (x s))
    (hupdates : MakesUpdates x) (hwf : s.cfg.Wf) (hok : PlanOk e.rest)
    (hrest : ∀ n t, t.cfg.Wf → t.rdyCount = 0 → LeavesPlan (runPlan e.kind e.rest n t)) :
    LeavesPlan ((x >>= continueMacro e) s) := by
  have hcfg := (hupdates s).keepsPorts.cfg
  rw [bind_run]
  cases hrun : x s with
  | ok f t =>
    rw [hrun] at hx hcfg
    cases f with
    | ended k d =>
      have hcfg : t.cfg = s.cfg := hcfg
      exact hrest _ (t.setResult ⟨k, .none, d⟩) (show t.cfg.Wf from hcfg ▸ hwf) hx.2
    | waiting w => exact ⟨hx.2.1, e, rfl, hok⟩
  | error e t =>
    rw [hrun] at hx
    exact hx.2

/-- The end of a macro (45_orchestrator.md R280). -/
theorem finishMacro_run (k : MacroKind) (n : Notes) (s : State) :
    finishMacro k n s = .ok (macroResult k s.dev n) ((s.enterPhase .done).enterPhase .idle) := rfl

/-- A macro that ran to its end does not wait. -/
theorem macroResult_ended (k : MacroKind) (dev : Option DeviceInfo) (n : Notes) :
    ∃ kind d, macroResult k dev n = .ended kind d := by
  cases k with
  | verify => cases hfirst : n.first <;> simp [macroResult, hfirst]
  | _ => exact ⟨_, _, rfl⟩

theorem leavesPlan_runPlan (k : MacroKind) (items : List PlanItem) (hok : PlanOk items) :
    ∀ (n : Notes) (s : State), s.cfg.Wf → s.rdyCount = 0 → LeavesPlan (runPlan k items n s) := by
  induction items with
  | nil =>
    intro n s _ hcount
    obtain ⟨kind, d, hend⟩ := macroResult_ended k s.dev n
    show LeavesPlan (finishMacro k n s)
    rw [finishMacro_run, hend]
    exact ⟨rfl, hcount⟩
  | cons item rest ih =>
    intro n s hwf hcount
    cases item with
    | enter o =>
      rw [runPlan_enter]
      exact ih hok n (s.enterPhase o) hwf hcount
    | sub i keep =>
      obtain ⟨-, hrest⟩ := List.forall_mem_cons.mp hok
      rw [runPlan_sub]
      exact (leavesPhase_subCommand i hwf hcount).continue (subCommand_updates i) hwf hrest (ih hrest)
    | statusIfKnown =>
      obtain ⟨-, hrest⟩ := List.forall_mem_cons.mp hok
      rw [runPlan_statusIfKnown, bind_run, get_run]
      show LeavesPlan ((if statusWanted s n then cmdReadStatus >>= continueMacro ⟨k, .status, rest, n⟩ else runPlan k rest n) s)
      split
      · exact (leavesPhase_subCommand .readStatus hwf hcount).continue cmdReadStatus_updates hwf hrest (ih hrest)
      · exact ih hrest n s hwf hcount

theorem LeavesPlan.idleOnStop {b : Bridge Flow} {s : State} (h : LeavesPlan (b s)) : LeavesMacro (idleOnStop b s) := by
  unfold Machine.idleOnStop
  cases hrun : b s with
  | ok f t =>
    rw [hrun] at h
    cases f <;> exact h
  | error e t =>
    rw [hrun] at h
    exact ⟨rfl, h⟩

/-! ## Steps -/

/-- The invariant of a state between commands. -/
theorem inv_of_idle {s : State} (hs : s.Steady) (htask : s.task = none) (horch : s.orch = .idle) (hcount : s.rdyCount = 0) :
    s.Inv := by
  obtain ⟨hwf, hstreams, hhazard, hmem⟩ := hs
  exact ⟨hwf, hstreams, ⟨fun _ => hcount, fun h => absurd htask h⟩,
    ⟨fun t ht => absurd (htask.symm.trans ht) (by simp), fun _ => horch⟩,
    fun t e ht => absurd (htask.symm.trans ht) (by simp), hhazard, hmem⟩

/-- Settles O21: the reference parameters are well-formed, and nothing is open, known or in progress. -/
theorem resetHasInvariant : Obligations.ResetHasInvariant := by
  have hcfg : State.reset.cfg = Cfg.ref := rfl
  have hread : State.reset.rdOpen = false := rfl
  have hburst : State.reset.burstOpen = false := rfl
  have htarget : State.reset.target = none := rfl
  refine inv_of_idle ⟨hcfg ▸ ref_wf, ⟨?_, ?_⟩, ?_, ?_⟩ rfl rfl rfl
  · simp [hread]
  · simp [hburst]
  · simp [State.HazardInv, htarget]
  · simp [State.MemInv, htarget]

/-- The invariant of a state in a wait. -/
theorem inv_of_waiting {s : State} {w : Task} (hs : s.Steady) (htask : s.task = some w)
    (hcount : s.rdyCount < s.cfg.readyDebounce) (horch : w.outer = none → s.orch = .idle)
    (hrest : ∀ e, w.outer = some e → PlanOk e.rest) : s.Inv := by
  obtain ⟨hwf, hstreams, hhazard, hmem⟩ := hs
  refine ⟨hwf, hstreams, ⟨fun h => absurd (htask.symm.trans h) (by simp), fun _ => hcount⟩,
    ⟨fun t ht => ?_, fun h => absurd (htask.symm.trans h) (by simp)⟩, fun t e ht => ?_, hhazard, hmem⟩
  all_goals cases htask.symm.trans ht
  · exact horch
  · exact hrest e

/-- What a command leaves behind has the invariant: a command by itself, or a macro. -/
theorem commit_inv {b : Bridge Flow} (hb : MakesUpdates b) {s s' : State} (hs : s.Steady) (htask : s.task = none)
    (hleaves : LeavesPhase .idle (b s) ∨ LeavesMacro (b s)) (h : commit b s = .next s') : s'.Inv := by
  have hsteady := (hb s).steady hs
  have hports := (hb s).keepsPorts.task
  rcases commit_cases b s with ⟨k, d, t, hrun, hc⟩ | ⟨w, t, hrun, hc⟩ | ⟨k, r, t, hrun, hc⟩ | ⟨f, t, -, hc⟩
  all_goals cases hc.symm.trans h
  all_goals rw [hrun] at hsteady hports hleaves
  · have hend : t.orch = .idle ∧ t.rdyCount = 0 := hleaves.elim id id
    exact inv_of_idle (s := t.answer _) hsteady (hports.trans htask) hend.1 hend.2
  · rcases hleaves with ⟨horch, hcount, houter⟩ | ⟨hcount, e, houter, hok⟩
    · exact inv_of_waiting (s := { t with task := some w }) hsteady rfl hcount (fun _ => horch)
        fun e he => absurd (houter.symm.trans he) (by simp)
    · refine inv_of_waiting (s := { t with task := some w }) hsteady rfl hcount
        (fun hnone => absurd (houter.symm.trans hnone) (by simp)) fun e' he => ?_
      cases houter.symm.trans he
      exact hok
  · have hend : t.orch = .idle ∧ t.rdyCount = 0 := hleaves.elim id id
    exact inv_of_idle (s := t.answer _) hsteady (hports.trans htask) hend.1 hend.2

theorem State.Inv.steady {s : State} (h : s.Inv) : s.Steady := by
  obtain ⟨hwf, hstreams, -, -, -, hhazard, hmem⟩ := h
  exact ⟨hwf, hstreams, hhazard, hmem⟩

theorem execSessionClose_inv {s s' : State} (hinv : s.Inv) (htask : s.task = none) (h : execSessionClose s = .next s') :
    s'.Inv := by
  by_cases hsession : s.session = .closed
  · cases (commit_raised (cmdSessionClose_of_closed hsession)).symm.trans h
    exact hinv
  · cases (commit_ended (cmdSessionClose_of_open hsession)).symm.trans h
    obtain ⟨hwf, hstreams, ⟨hcount, -⟩, ⟨-, horch⟩, -, hhazard, hmem⟩ := hinv
    have htarget : ∀ t, s.closePort.target = some t → s.target = some t := by
      intro t ht
      rw [State.closePort_target] at ht
      split at ht
      · cases ht
      · exact ht
    refine inv_of_idle ⟨?_, ?_, fun hknown => ?_, fun t ht => hmem t (htarget t ht)⟩ ?_ ?_ ?_
    · simpa using hwf
    · simpa [State.StreamsInv] using hstreams
    · obtain ⟨t, ht⟩ := Option.isSome_iff_exists.mp hknown
      simpa [State.HazardFree] using hhazard (by simp [htarget t ht])
    · simpa using htask
    · simpa using horch htask
    · simpa using hcount htask

theorem execSessionOpen_inv {sel : List Byte} {s s' : State} (hinv : s.Inv) (htask : s.task = none)
    (h : execSessionOpen sel s = .next s') : s'.Inv := by
  by_cases hlen : sel.length ≤ s.cfg.maxXferBytes
  · cases (execSessionOpen_of_short hlen).symm.trans h
    obtain ⟨hwf, -, -, -, -, -, hmem⟩ := hinv
    have htarget : ∀ t, s.closeIfOpen.target = some t → s.target = some t := by
      intro t ht
      rw [State.closeIfOpen_target] at ht
      split at ht
      · cases ht
      · exact ht
    have hcfg : s.closeIfOpen.cfg = s.cfg := State.closeIfOpen_cfg s
    have hkeptTask : s.closeIfOpen.task = none := (State.closeIfOpen_task s).trans htask
    cases hanswer : s.nextAnswer.ok with
    | true =>
      rw [openSession_of_ok sel hanswer]
      exact inv_of_idle ⟨hcfg ▸ hwf, ⟨nofun, nofun⟩, fun _ => rfl, fun t ht => hmem t (htarget t ht)⟩ hkeptTask rfl rfl
    | false =>
      rw [openSession_of_failed sel hanswer]
      exact inv_of_idle ⟨hcfg ▸ hwf, ⟨nofun, nofun⟩, fun _ => rfl, fun t ht => hmem t (htarget t ht)⟩ hkeptTask rfl rfl
  · cases (execSessionOpen_of_long hlen).symm.trans h
    exact hinv

theorem exec_inv {i : Instr} {s s' : State} (hinv : s.Inv) (htask : s.task = none) (h : exec i s = .next s') : s'.Inv := by
  obtain ⟨hwf, -, ⟨hcount, -⟩, ⟨-, horch⟩, -⟩ := id hinv
  have hcount := hcount htask
  have horch := horch htask
  by_cases hsub : i.isSubCommand = true
  · rw [exec_eq_commit_subCommand hsub] at h
    exact commit_inv (subCommand_updates i) hinv.steady htask (.inl (horch ▸ leavesPhase_subCommand i hwf hcount)) h
  cases hopen : i.isSessionOpen with
  | true =>
    cases i <;> cases hopen
    exact execSessionOpen_inv hinv htask h
  | false =>
  cases hclose : i.isSessionClose with
  | true =>
    cases i <;> cases hclose
    exact execSessionClose_inv hinv htask h
  | false =>
  cases hmacro : i.isMacro with
  | true =>
    obtain ⟨k, items, hitems⟩ := exists_expansion hmacro s.cfg
    cases hr : s.earlyRefusal (i.operandRefusal s.cfg) with
    | none =>
      rw [exec_macro_run hitems hr] at h
      exact commit_inv (runMacro_updates k items) hinv.steady htask
        (.inr (leavesPlan_runPlan k items (planOk_expansion hitems) {} s hwf hcount).idleOnStop) h
    | some r =>
      cases (exec_macro_refused hmacro hr).symm.trans h
      exact hinv
  | false =>
    have hfast : i ≠ .opFastRead := fun hi => by rw [hi] at h; cases h
    obtain ⟨b, hb, hends, hupdates, heq⟩ := exec_eq_commit_row (by simpa using hsub) hopen hclose hmacro hfast
    rw [heq] at h
    exact commit_inv hupdates hinv.steady htask (.inl (horch ▸ leavesPhase_of_ends hb hends hcount)) h

theorem resume_inv {w : Task} {s s' : State} (hinv : s.Inv) (htask : s.task = some w) (h : resume w s = .next s') :
    s'.Inv := by
  obtain ⟨hwf, -, ⟨-, hcount⟩, ⟨horch, -⟩, hrest, -⟩ := id hinv
  have hcount := hcount (by simp [htask])
  refine commit_inv (s := { s with task := none }) (resumeTask_updates w) hinv.steady rfl ?_ h
  obtain ⟨polls, cmd, outer⟩ := w
  have hround : LeavesPhase s.orch (waitRound cmd polls { s with task := none }) :=
    leavesPhase_waitRound (s := { s with task := none }) cmd polls hcount
  cases outer with
  | none => exact .inl (horch _ htask rfl ▸ hround)
  | some e =>
    have hok := hrest _ e htask rfl
    exact .inr (hround.continue (waitRound_updates cmd polls) hwf hok (leavesPlan_runPlan e.kind e.rest hok)).idleOnStop

/-- Settles O22: the updates of a command keep the streams, the marks and the memory, and how it leaves off gives the rest. -/
theorem stepKeepsInvariant : Obligations.StepKeepsInvariant := by
  intro s s' hinv h
  rcases Option.eq_none_or_eq_some s.task with htask | ⟨t, htask⟩
  · cases hinbox : s.inbox with
    | nil =>
      cases (step_of_idle htask hinbox).symm.trans h
      exact hinv
    | cons x rest =>
      have hinv : State.Inv { s with inbox := rest } := hinv
      cases hdec : decode s.cfg s.irFamily x with
      | ok i =>
        rw [step_of_decode_ok htask hinbox hdec] at h
        exact exec_inv hinv htask h
      | error e =>
        rw [step_of_decode_error htask hinbox hdec] at h
        cases x <;> cases h
        exact hinv
  · rw [step_of_task htask] at h
    exact resume_inv hinv htask h

end Sys2Proof.Machine
end

section
/-! SUPPORT. Where a macro stands between two sub-commands, as far as the hazard marks go (10_state.md R40, 45_orchestrator.md
R298): the phases of its expansion, which sub-command leads from which to which, and that every expansion takes them in order.
-/

namespace Sys2Proof.Machine

/-- Outside passthrough, in a burst, ready for a flash command, ready for a status-register write, with a write pending, in a
streamed read. -/
inductive Phase where
  | outside | burst | ready | enabled | pending | reading
  deriving DecidableEq

/-- What the ghost fields and the TAP are in a phase. -/
def Phase.At (s : State) : Phase → Prop
  | .outside | .burst => s.mustPoll = false
  | .ready => s.pt = true ∧ s.mustPoll = false ∧ s.tap ≠ .shiftDr
  | .enabled => s.pt = true ∧ s.mustPoll = false ∧ s.tap ≠ .shiftDr ∧ s.weIssued = true
  | .pending => s.pt = true ∧ s.tap ≠ .shiftDr
  | .reading => s.pt = true ∧ s.mustPoll = false

/-- The instruction register of a sub-command that is one instruction and its operand (44_config_sequencer.md R255). -/
def simpleName : Instr → Option IrName
  | .cEnable => some .enable
  | .cErase => some .erase
  | .cResetCrc => some .resetCrc
  | .cDisable => some .disable
  | .cRefresh => some .refresh
  | _ => none

theorem subCommand_of_simpleName {i : Instr} {n : IrName} (h : simpleName i = some n) : subCommand i = simpleCfg n := by
  cases i <;> cases h <;> rfl

/-- A sub-command that leads from a phase to the next. -/
inductive Turn : Phase → Instr → Phase → Prop
  | readIdcode : Turn .outside .readIdcode .outside
  | readStatus : Turn .outside .readStatus .outside
  | simple {p : Phase} {i : Instr} (n : IrName) (hi : simpleName i = some n)
      (hp : p = .outside ∨ p = .burst ∨ p = .ready) : Turn p i .outside
  | cBurst : Turn .outside .cBurst .burst
  | cBurstData (data : List Byte) : Turn .burst (.cBurstData data) .burst
  | cPassthrough : Turn .outside .cPassthrough .ready
  | fReset : Turn .ready .fReset .ready
  | fRdid : Turn .ready .fRdid .ready
  | fRdsr1 : Turn .ready .fRdsr1 .ready
  | fWren : Turn .ready .fWren .enabled
  | fUnprotect : Turn .enabled .fUnprotect .ready
  | fCe : Turn .ready .fCe .pending
  | erase (g : Gran) (a : Addr) : Turn .ready (eraseCmd g a) .pending
  | fPp (a : Addr) (data : List Byte) : Turn .ready (.fPp a data) .pending
  | fWait : Turn .pending .fWait .ready
  | fRead (a : Addr) : Turn .ready (.fRead a) .reading
  | fContRead (n : Len) : Turn .reading (.fContRead n) .reading
  | spiEnd : Turn .reading .spiEnd .ready

/-- Of what the flash answers, only `F_CONT_READ` is collected or compared (45_orchestrator.md R291, R292). -/
def keepsReads (i : Instr) : Keep → Bool
  | .append | .compare _ _ => match i with
    | .fContRead _ => true
    | _ => false
  | _ => true

/-- An expansion, or a part of one, that leads from a phase to a phase. -/
inductive Leads : Phase → List PlanItem → Phase → Prop
  | nil (p : Phase) : Leads p [] p
  | enter {p q : Phase} {rest : List PlanItem} (o : OrchState) (h : Leads p rest q) : Leads p (.enter o :: rest) q
  | sub {p p' q : Phase} {rest : List PlanItem} {i : Instr} (keep : Keep) (hi : Turn p i p') (h : Leads p' rest q)
      (hkeep : keepsReads i keep = true := by rfl) : Leads p (.sub i keep :: rest) q
  | status {q : Phase} {rest : List PlanItem} (h : Leads .outside rest q) : Leads .outside (.statusIfKnown :: rest) q

theorem Leads.append {p q r : Phase} {a b : List PlanItem} (h : Leads p a q) (k : Leads q b r) : Leads p (a ++ b) r := by
  induction h with
  | nil => exact k
  | enter o _ ih => exact .enter o (ih k)
  | sub keep hi _ hkeep ih => exact .sub keep hi (ih k) hkeep
  | status _ ih => exact .status (ih k)

/-- A loop whose every round leads back to its phase. -/
theorem Leads.flatMap {β : Type} {p : Phase} {l : List β} {f : β → List PlanItem} (h : ∀ x ∈ l, Leads p (f x) p) :
    Leads p (l.flatMap f) p := by
  induction l with
  | nil => exact .nil p
  | cons x xs ih =>
    rw [List.flatMap_cons]
    exact (h x List.mem_cons_self).append (ih fun y hy => h y (List.mem_cons_of_mem x hy))

theorem Leads.map {β : Type} {p : Phase} {l : List β} {f : β → PlanItem} (h : ∀ x ∈ l, Leads p [f x] p) :
    Leads p (l.map f) p := by
  rw [List.map_eq_flatMap]
  exact .flatMap h

/-! ## The parts of the expansions -/

theorem leads_identifyPhase : Leads .outside identifyPhase .outside :=
  .enter _ (.sub _ .readIdcode (.status (.nil _)))

theorem leads_flashEntry : Leads .outside flashEntry .ready :=
  .sub _ (.simple .enable rfl (.inl rfl)) (.sub _ (.simple .erase rfl (.inl rfl)) (.sub _ (.simple .disable rfl (.inl rfl))
    (.sub _ .cPassthrough (.sub _ .fReset (.sub _ .fRdid (.nil _))))))

theorem leads_refreshPhase {p : Phase} (hp : p = .outside ∨ p = .burst ∨ p = .ready) (opts : Byte) :
    ∃ q, Leads p (refreshPhase opts) q := by
  unfold refreshPhase
  split
  · exact ⟨_, .enter _ (.sub _ (.simple .refresh rfl hp) (.nil _))⟩
  · exact ⟨_, .nil _⟩

theorem leads_eraseRange (c : Cfg) (offset : Addr) (length : Nat) (g : Gran) :
    Leads .ready (eraseRange c offset length g) .ready :=
  .flatMap fun _ _ => .sub _ (.erase g _) (.sub _ .fWait (.nil _))

theorem leads_programErase (c : Cfg) (offset : Addr) (g : Gran) (data : List Byte) (opts : Byte) :
    Leads .ready (programErase c offset g data opts) .ready := by
  unfold programErase
  split
  · exact .sub _ .fCe (.sub _ .fWait (.nil _))
  · split
    · exact .nil _
    · exact leads_eraseRange c offset data.length g

theorem leads_unprotect (opts : Byte) :
    Leads .ready (if optUnprotect opts then [runIt .fWren, .sub .fUnprotect .unprotect] else []) .ready := by
  split
  · exact .sub _ .fWren (.sub _ .fUnprotect (.nil _))
  · exact .nil _

theorem leads_programLoop (c : Cfg) (offset : Addr) (data : List Byte) : Leads .ready (programLoop c offset data) .ready :=
  .flatMap fun _ _ => .sub _ (.fPp _ _) (.sub _ .fWait (.nil _))

theorem leads_verifyLoop (c : Cfg) (offset : Addr) (data : List Byte) : Leads .ready (verifyLoop c offset data) .ready :=
  .flatMap fun _ _ => .sub _ (.fRead _) (.sub _ (.fContRead _) (.sub _ .spiEnd (.nil _)))

theorem leads_verify (c : Cfg) (offset : Addr) (data : List Byte) (opts : Byte) :
    Leads .ready (if optNoVerify opts then [] else verifyLoop c offset data) .ready := by
  split
  · exact .nil _
  · exact leads_verifyLoop c offset data

theorem leads_readLoop (c : Cfg) (offset : Addr) (len : Nat) : Leads .ready (readLoop c offset len) .ready := by
  unfold readLoop
  split
  · exact .nil _
  · exact Leads.append (.sub _ (.fRead _) (.map fun _ _ => .sub _ (.fContRead _) (.nil _))) (.sub _ .spiEnd (.nil _))

/-- Every expansion of a macro leads on from outside passthrough. -/
theorem leads_expansion {c : Cfg} {i : Instr} {k : MacroKind} {items : List PlanItem}
    (h : i.expansion c = some (k, items)) : ∃ q, Leads .outside items q := by
  have hentry : ∀ o, Leads .outside (identifyPhase ++ [.enter o] ++ flashEntry) .ready := fun o =>
    (leads_identifyPhase.append (.enter o (.nil _))).append leads_flashEntry
  cases i with
  | mIdentify => cases h; exact ⟨_, leads_identifyPhase⟩
  | mProbe opts =>
    cases h
    obtain ⟨q, hrefresh⟩ := leads_refreshPhase (.inr (.inr rfl)) opts
    exact ⟨q, ((hentry _).append (.sub _ .fRdsr1 (.nil _))).append hrefresh⟩
  | mLoadSram data opts =>
    cases h
    obtain ⟨q, hrefresh⟩ := leads_refreshPhase (.inl rfl) opts
    refine ⟨q, (((leads_identifyPhase.append ?_).append (.map fun _ _ => .sub _ (.cBurstData _) (.nil _))).append ?_).append
      hrefresh⟩
    · exact .enter _ (.sub _ (.simple .enable rfl (.inl rfl)) (.sub _ (.simple .erase rfl (.inl rfl))
        (.sub _ (.simple .resetCrc rfl (.inl rfl)) (.sub _ .cBurst (.nil _)))))
    · exact .sub _ (.simple .disable rfl (.inr (.inl rfl))) (.nil _)
  | mProgram offset gran data opts =>
    cases h
    obtain ⟨q, hrefresh⟩ := leads_refreshPhase (.inr (.inr rfl)) opts
    exact ⟨q, (((((hentry _).append (leads_unprotect _)).append (leads_programErase _ _ _ _ _)).append
      (leads_programLoop _ _ _)).append (leads_verify _ _ _ _)).append hrefresh⟩
  | mRead offset len opts =>
    cases h
    obtain ⟨q, hrefresh⟩ := leads_refreshPhase (.inr (.inr rfl)) opts
    exact ⟨q, ((hentry _).append (leads_readLoop _ _ _)).append hrefresh⟩
  | mErase offset len gran opts =>
    cases h
    obtain ⟨q, hrefresh⟩ := leads_refreshPhase (.inr (.inr rfl)) opts
    exact ⟨q, ((hentry _).append (leads_eraseRange _ _ _ _)).append hrefresh⟩
  | mVerify offset data opts =>
    cases h
    obtain ⟨q, hrefresh⟩ := leads_refreshPhase (.inr (.inr rfl)) opts
    exact ⟨q, ((hentry _).append (leads_verifyLoop _ _ _)).append hrefresh⟩
  | _ => cases h

end Sys2Proof.Machine
end

section
/-! SUPPORT. What a sub-command does to the marks and to the phase of its macro, whatever the answers are; and the statement
that a macro raises no mark (45_orchestrator.md R298). -/

namespace Sys2Proof.Machine

/-! ## What marks change -/

/-- All that a mark changes: the set, and whether a reference target is known (10_state.md R40, 60_exceptions.md R334). -/
def State.marks (s : State) : HazardSet × Bool := (s.hz, s.target.isSome)

section
variable {α : Type} {K : List Part} {b : Bridge α}

theorem Built.marks (h : Built K b) (hK : .mark ∉ K) (s : State) : (endState (b s)).marks = s.marks := by
  refine h.keeps State.marks ?_ ?_ s
  · rintro s t ⟨_, _, _, _, _, _, _, _, hknown, rfl⟩
    exact congrArg (Prod.mk s.hz) hknown
  · intro p hp g hg s
    cases hg with
    | prologueMarked | writeMarked => exact absurd hp hK
    | _ => simp [State.marks, State.enterPhase]

theorem Built.pt (h : Built K b) (hK : .passthrough ∉ K) (s : State) : (endState (b s)).pt = s.pt := by
  refine h.keeps State.pt ?_ ?_ s
  · rintro s t ⟨_, _, _, _, _, _, _, _, -, rfl⟩; rfl
  · intro p hp g hg s
    cases hg with
    | instructionLoaded | passthroughEntered => exact absurd hp hK
    | _ => simp [State.enterPhase]

theorem Built.mustPoll (h : Built K b) (hF : .frame ∉ K) (hC : .counter ∉ K) (s : State) :
    (endState (b s)).mustPoll = s.mustPoll := by
  refine h.keeps State.mustPoll ?_ ?_ s
  · rintro s t ⟨_, _, _, _, _, _, _, _, -, rfl⟩; rfl
  · intro p hp g hg s
    cases hg with
    | frameSent => exact absurd hp hF
    | waitSatisfied => exact absurd hp hC
    | _ => simp [State.enterPhase]

theorem Built.weIssued (h : Built K b) (hF : .frame ∉ K) (s : State) : (endState (b s)).weIssued = s.weIssued := by
  refine h.keeps State.weIssued ?_ ?_ s
  · rintro s t ⟨_, _, _, _, _, _, _, _, -, rfl⟩; rfl
  · intro p hp g hg s
    cases hg with
    | frameSent => exact absurd hp hF
    | _ => simp [State.enterPhase]

end

/-! ## What holds where a command goes on -/

section
variable {α β : Type} {P : α → State → Prop}

/-- Where the command does not stop, this holds of what it answers and leaves. -/
def Yields (P : α → State → Prop) (r : EStateM.Result Stop State α) : Prop := ∀ a t, r = .ok a t → P a t

theorem Yields.bind {Q : β → State → Prop} {x : Bridge α} {f : α → Bridge β} {s : State} (hx : Yields P (x s))
    (hf : ∀ a t, P a t → Yields Q (f a t)) : Yields Q ((x >>= f) s) := by
  intro b u h
  obtain ⟨a, t, hrun, hrest⟩ := bind_eq_ok.mp h
  exact hf a t (hx a t hrun) b u hrest

theorem yields_pure {a : α} {s : State} (h : P a s) : Yields P ((pure a : Bridge α) s) := by
  intro b t hrun
  cases hrun
  exact h

end

/-- What an SPI transaction leaves of the ghost fields, and that it ends outside SHIFT_DR (41_spi_bridge.md R150). -/
def Exchanged (s : State) (_ : List Byte) (t : State) : Prop :=
  t.pt = s.pt ∧ t.mustPoll = s.mustPoll ∧ t.weIssued = s.weIssued ∧ t.tap ≠ .shiftDr

theorem tap_of_exit {tx rx : List Byte} {n : Nat} {s t : State} (h : tapShift tx n true s = .ok rx t) :
    t.tap ≠ .shiftDr := by
  rcases tapShift_cases tx n true s with ⟨-, h'⟩ | ⟨-, -, h'⟩ | ⟨-, -, -, h'⟩ | ⟨reg, -, -, -, -, h'⟩ |
    ⟨reg, -, -, -, -, h'⟩ <;> rw [h'] at h <;> cases h
  cases reg with
  | ir => exact exitState_ne_shiftDr s.cfg .ir
  | dr => exact exitState_ne_shiftDr s.cfg .dr

theorem yields_transactSPI (frame : List Byte) (s : State) : Yields (Exchanged s) (transactSPI frame s) := by
  intro rx t h
  have hbuilt : Built [] (transactSPI frame) := built_transactSPI frame
  have hpt := hbuilt.pt (by decide) s
  have hpoll := hbuilt.mustPoll (by decide) (by decide) s
  have hwe := hbuilt.weIssued (by decide) s
  rw [h] at hpt hpoll hwe
  refine ⟨hpt, hpoll, hwe, ?_⟩
  unfold transactSPI at h
  obtain ⟨_, s₁, -, h⟩ := bind_eq_ok.mp h
  obtain ⟨_, s₂, -, h⟩ := bind_eq_ok.mp h
  have hexit : ∀ u, (tapShift (revBuf frame) (8 * frame.length) true >>= fun raw => pure (revBuf raw)) u = .ok rx t →
      t.tap ≠ .shiftDr := by
    intro u hu
    obtain ⟨raw, v, hshift, hu⟩ := bind_eq_ok.mp hu
    cases hu
    exact tap_of_exit hshift
  split at h
  · obtain ⟨_, s₃, -, h⟩ := bind_eq_ok.mp h
    exact hexit _ h
  · exact hexit _ h

/-- What a flash frame leaves: the ghost fields of R223 (43_flash_commands.md), and a TAP outside SHIFT_DR. -/
def FrameSent (n : FlashName) (s : State) (_ : List Byte) (t : State) : Prop :=
  t.pt = s.pt ∧ t.mustPoll = (s.afterFrame n).mustPoll ∧ t.weIssued = (s.afterFrame n).weIssued ∧ t.tap ≠ .shiftDr

theorem afterFrame_mustPoll_congr {s u : State} (n : FlashName) (h : u.mustPoll = s.mustPoll) :
    (u.afterFrame n).mustPoll = (s.afterFrame n).mustPoll := by cases n <;> simp [State.afterFrame, h]

theorem afterFrame_weIssued_congr {s u : State} (n : FlashName) (h : u.weIssued = s.weIssued) :
    (u.afterFrame n).weIssued = (s.afterFrame n).weIssued := by cases n <;> simp [State.afterFrame, h]

theorem yields_sendFrame (n : FlashName) (operands : List Byte) (s : State) :
    Yields (FrameSent n s) (sendFrame n operands s) := by
  intro rx t h
  unfold sendFrame at h
  obtain ⟨_, s₁, hget, h⟩ := bind_eq_ok.mp h
  cases hget
  obtain ⟨rx', s₂, hsend, h⟩ := bind_eq_ok.mp h
  obtain ⟨hpt, hpoll, hwe, htap⟩ := yields_transactSPI _ _ _ _ hsend
  cases h
  refine ⟨?_, afterFrame_mustPoll_congr n hpoll, afterFrame_weIssued_congr n hwe, ?_⟩
  · simpa using hpt
  · simpa using htap

/-! ## The phase after a sub-command -/

/-- After a sub-command the marks are the given ones, and the phase is the next; one that waits leaves a write pending, and the
phase after its wait is the ready one. -/
def Phase.After (q : Phase) (marks : HazardSet × Bool) : EStateM.Result Stop State Flow → Prop
  | .ok (.ended _ _) t => t.marks = marks ∧ q.At t
  | .ok (.waiting w) t => t.marks = marks ∧ Phase.pending.At t ∧ q = .ready ∧ w.outer = none
  | .error _ t => t.marks = marks

section
variable {K : List Part} {q : Phase} {s : State} {marks : HazardSet × Bool}

/-- A part that marks nothing and does not wait. -/
theorem Phase.After.of_built {b : Bridge Flow} (hb : Built K b) (hK : .mark ∉ K) (hends : Ends b) (hs : s.marks = marks)
    (hat : Yields (fun _ t => q.At t) (b s)) : q.After marks (b s) := by
  have hmarks := (hb.marks hK s).trans hs
  cases hrun : b s with
  | ok f t =>
    obtain ⟨d, rfl⟩ := hends s f t hrun
    rw [hrun] at hmarks
    exact ⟨hmarks, hat _ _ hrun⟩
  | error e t =>
    rw [hrun] at hmarks
    exact hmarks

/-- A prologue stops the command, or marks (43_flash_commands.md R200). -/
theorem flashPrologue_cases (k : FlashKind) (lenOk : Bool) (s : State) :
    (∃ e, flashPrologue k lenOk s = .error e s) ∨ flashPrologue k lenOk s = .ok () (s.flashHazards k) := by
  unfold flashPrologue
  cases hstop : s.checkStop (lengthRefusal lenOk) with
  | some e => exact .inl ⟨e, bind_of_error (checks_of_stop hstop) _⟩
  | none =>
    rw [bind_of_ok (checks_of_pass hstop), bind_run, get_run]
    cases hread : (k != .contRead || s.rdOpen) with
    | false => exact .inl ⟨.raise .refused .noOpenRead, by simp [require, hread, bind_run]⟩
    | true => exact .inr (by simp [require, hread, bind_run])

/-- A prologue that marks nothing, and then the rest of the command. -/
theorem Phase.After.prologue {k : FlashKind} {lenOk : Bool} {f : Unit → Bridge Flow} (hclean : s.flashHazards k = s)
    (hf : q.After s.marks (f () s)) : q.After s.marks ((flashPrologue k lenOk >>= f) s) := by
  rcases flashPrologue_cases k lenOk s with ⟨e, hstop⟩ | hpass
  · rw [bind_of_error hstop]
    exact rfl
  · rw [bind_of_ok hpass, hclean]
    exact hf

/-- In the ready phase no prologue marks. -/
theorem clean_of_ready (h : Phase.ready.At s) (k : FlashKind) : s.flashHazards k = s := by
  obtain ⟨hpt, hpoll, htap⟩ := h
  exact flashHazards_clean hpt (.inl hpoll) (.inl htap)

/-- A command of one frame (R201 to R205). -/
theorem Phase.After.frame {k : FlashKind} (hclean : s.flashHazards k = s) (n : FlashName) (operands : List Byte)
    (d : List Byte → ResultData) (hq : ∀ rx t, FrameSent n s rx t → q.At t) :
    q.After s.marks ((flashPrologue k true >>= fun _ => sendFrame n operands >>= fun rx => done (d rx)) s) := by
  have hb : Built [.frame] (sendFrame n operands >>= fun rx => done (d rx)) :=
    (built_sendFrame (by decide) _ _).bind fun _ => built_done _
  exact .prologue hclean (.of_built hb (by decide) (ends_part _ _) rfl
    ((yields_sendFrame n operands s).bind fun rx t ht => yields_pure (hq rx t ht)))

/-- An erase: a write-enable, and a frame after which a write is pending (R209, R211). -/
theorem Phase.After.eraseFrames (hs : Phase.ready.At s) (n : FlashName) (operands : List Byte) :
    Phase.pending.After s.marks (eraseFrames n operands s) := by
  have hb : Built [.frame] (sendFrame .wren [] >>= fun _ => sendFrame n operands >>= fun _ => done .none) :=
    (built_sendFrame (by decide) _ _).bind fun _ => (built_sendFrame (by decide) _ _).bind fun _ => built_done _
  refine .prologue (clean_of_ready hs .plain) (.of_built hb (by decide) (.bind fun _ => ends_part _ fun _ => .none) rfl ?_)
  exact (yields_sendFrame _ _ _).bind fun _ t ⟨hpt, _⟩ => (yields_sendFrame _ _ _).bind fun _ u ⟨hpt', _, _, htap⟩ =>
    yields_pure ⟨hpt'.trans (hpt.trans hs.1), htap⟩

/-- One round of a wait (R218). -/
theorem after_waitRound (cmd : WaitCmd) (polls : Nat) (hs : Phase.pending.At s) :
    Phase.ready.After s.marks (waitRound cmd polls s) := by
  obtain ⟨hpt, -⟩ := hs
  have hsend : Built [.frame] (sendFrame .rdsr1 [0x00]) := built_sendFrame (by decide) _ _
  have hmarks := hsend.marks (by decide) s
  cases hrun : sendFrame .rdsr1 [0x00] s with
  | error e u =>
    rw [hrun] at hmarks
    rw [waitRound_failed cmd (waitPoll_failed polls hrun)]
    exact hmarks
  | ok rx u =>
    rw [hrun] at hmarks
    obtain ⟨hpt', -, -, htap⟩ := yields_sendFrame _ _ _ _ _ hrun
    by_cases hready : debounce u.rdyCount (!(registerByte rx).getLsbD u.cfg.busyBit) = u.cfg.readyDebounce
    · rw [waitRound_satisfied cmd (waitPoll_satisfied polls hrun hready)]
      have hat : Phase.ready.At { u with rdyCount := 0, mustPoll := false } := ⟨hpt'.trans hpt, rfl, htap⟩
      cases cmd with
      | wait => exact ⟨hmarks, hat⟩
      | unprotect =>
        refine .of_built (s := { u with rdyCount := 0, mustPoll := false })
          (built_afterWait (K := [.frame]) (by decide) .unprotect _) (by decide) (ends_part _ _) hmarks ?_
        exact (yields_sendFrame _ _ _).bind fun rx t ⟨hpt₂, hpoll, _, htap₂⟩ =>
          yields_pure ⟨hpt₂.trans hat.1, hpoll, htap₂⟩
    · rw [waitRound_unsatisfied cmd (waitPoll_unsatisfied polls hrun hready)]
      exact ⟨hmarks, ⟨hpt'.trans hpt, htap⟩, rfl, rfl⟩

theorem after_startWait (cmd : WaitCmd) (hs : Phase.pending.At s) : Phase.ready.After s.marks (startWait cmd s) := by
  rw [startWait_run]
  exact after_waitRound (s := { s with rdyCount := 0 }) cmd 0 hs

/-- `F_UNPROTECT` after a write-enable: no mark, and a wait (R220). -/
theorem after_fUnprotect (hs : Phase.enabled.At s) : Phase.ready.After s.marks (cmdFUnprotect s) := by
  obtain ⟨hpt, hpoll, htap, hwe⟩ := hs
  refine .prologue (clean_of_ready ⟨hpt, hpoll, htap⟩ .plain) ?_
  have hsend : Built [.frame] (sendFrame .wrsr1 [0x00]) := built_sendFrame (by decide) _ _
  have hmarks := hsend.marks (by decide) s
  unfold sendRegisterWrite
  simp only [bind_assoc, pure_bind]
  rw [bind_run, modify_run, writeEnableHazard_clean hwe]
  show Phase.ready.After s.marks ((sendFrame .wrsr1 [0x00] >>= fun _ => startWait .unprotect) s)
  rw [bind_run]
  cases hrun : sendFrame .wrsr1 [0x00] s with
  | error e u =>
    rw [hrun] at hmarks
    exact hmarks
  | ok rx u =>
    rw [hrun] at hmarks
    obtain ⟨hpt', -, -, htap'⟩ := yields_sendFrame _ _ _ _ _ hrun
    rw [← show u.marks = s.marks from hmarks]
    exact after_startWait .unprotect ⟨hpt'.trans hpt, htap'⟩

/-- A command that neither marks nor sends a flash frame keeps the marks, and `s.mustPoll`. -/
theorem Phase.After.of_config {b : Bridge Flow} (hb : Built [.passthrough, .device, .stream] b) (hends : Ends b)
    (hpoll : s.mustPoll = false) (hat : ∀ t, t.mustPoll = false → Phase.At t q) : q.After s.marks (b s) := by
  refine .of_built hb (by decide) hends rfl fun f t hrun => hat t ?_
  have hkept := hb.mustPoll (by decide) (by decide) s
  rw [hrun] at hkept
  exact hkept.trans hpoll

/-- `C_PASSTHROUGH` leads to the ready phase (44_config_sequencer.md R258). -/
theorem after_cPassthrough (hpoll : s.mustPoll = false) : Phase.ready.After s.marks (cmdCPassthrough s) := by
  have hb : Built [.passthrough] cmdCPassthrough := built_cmdCPassthrough (by decide)
  refine .of_built hb (by decide) (ends_command (i := .cPassthrough) nofun nofun) rfl fun f t hrun => ?_
  have hkept := hb.mustPoll (by decide) (by decide) s
  have hend : Yields (fun _ t => t.pt = true ∧ t.tap = .runTestIdle) (cmdCPassthrough s) := by
    have hfirst : ∀ {α : Type} (r : EStateM.Result Stop State α), Yields (fun _ _ => True) r := fun _ _ _ _ => trivial
    refine (hfirst _).bind fun _ _ _ => (hfirst _).bind fun _ _ _ => (hfirst _).bind fun _ _ _ => (hfirst _).bind fun _ _ _ =>
      (hfirst _).bind fun _ _ _ => (hfirst _).bind fun _ _ _ => ?_
    refine Yields.bind (P := fun _ u => u.tap = .runTestIdle) (fun _ _ => tap_of_tapGoTo_ok) fun _ u htap => ?_
    exact yields_pure (s := { u with pt := true }) ⟨rfl, htap⟩
  obtain ⟨hpt, htap⟩ := hend _ _ hrun
  rw [hrun] at hkept
  exact ⟨hpt, hkept.trans hpoll, by rw [htap]; decide⟩

/-- A sub-command takes its macro from its phase to the next, and changes no mark. -/
theorem Turn.after {p : Phase} {i : Instr} (h : Turn p i q) (hs : p.At s) : q.After s.marks (subCommand i s) := by
  cases h with
  | readIdcode =>
    exact .of_config (built_cmdReadIdcode (by decide) (by decide)) (ends_command (i := .readIdcode) nofun nofun) hs
      fun _ => id
  | readStatus => exact .of_config (built_cmdReadStatus (by decide)) ends_cmdReadStatus hs fun _ => id
  | simple n hi hp =>
    rw [subCommand_of_simpleName hi]
    have hpoll : s.mustPoll = false := by
      rcases hp with rfl | rfl | rfl
      · exact hs
      · exact hs
      · exact hs.2.1
    exact .of_config (built_simpleCfg (by decide) n) (ends_simpleCfg n) hpoll fun _ => id
  | cBurst =>
    exact .of_config (built_cmdCBurst (by decide) (by decide)) (ends_command (i := .cBurst) nofun nofun) hs fun _ => id
  | cBurstData data =>
    exact .of_config (built_cmdCBurstData data) (ends_command (i := .cBurstData data) nofun nofun) hs fun _ => id
  | cPassthrough => exact after_cPassthrough hs
  | fReset =>
    have hb : Built [] (get >>= fun c : State => transactSPI c.cfg.flashResetFrame >>= fun _ => done .none) :=
      .look (fun _ _ _ _ _ => rfl) fun _ => (built_transactSPI _).bind fun _ => built_done _
    refine .prologue (clean_of_ready hs .plain) (.of_built hb (by decide) (.bind fun _ => ends_part _ fun _ => .none) rfl ?_)
    exact (yields_transactSPI s.cfg.flashResetFrame s).bind fun _ t ⟨hpt, hpoll, _, htap⟩ =>
      yields_pure ⟨hpt.trans hs.1, hpoll.trans hs.2.1, htap⟩
  | fRdid =>
    have hb : Built [.frame] (sendRdid >>= fun bs => done (.bytes bs)) :=
      (built_sendRdid (by decide)).bind fun _ => built_done _
    refine .prologue (clean_of_ready hs .plain) (.of_built hb (by decide) (ends_part _ _) rfl ?_)
    refine Yields.bind (P := fun _ t => Phase.ready.At t) ?_ fun _ _ h => yields_pure h
    exact (yields_sendFrame .rdid (List.replicate s.cfg.jedecIdLen 0) s).bind fun _ t ⟨hpt, hpoll, _, htap⟩ =>
      yields_pure ⟨hpt.trans hs.1, hpoll.trans hs.2.1, htap⟩
  | fRdsr1 =>
    exact .frame (clean_of_ready hs .poll) .rdsr1 _ _ fun _ t ⟨hpt, hpoll, _, htap⟩ =>
      ⟨hpt.trans hs.1, hpoll.trans hs.2.1, htap⟩
  | fWren =>
    exact .frame (clean_of_ready hs .plain) .wren _ (fun _ => .none) fun _ t ⟨hpt, hpoll, hwe, htap⟩ =>
      ⟨hpt.trans hs.1, hpoll.trans hs.2.1, htap, hwe⟩
  | fUnprotect => exact after_fUnprotect hs
  | fCe => exact .eraseFrames hs .ce []
  | erase g a => cases g <;> exact .eraseFrames hs _ _
  | fPp a data =>
    have hb : Built [.frame] (sendFrame .wren [] >>= fun _ => sendPage a data >>= fun _ => done .none) :=
      (built_sendFrame (by decide) _ _).bind fun _ => (built_sendPage (by decide) _ _).bind fun _ => built_done _
    refine .prologue (clean_of_ready hs .plain) (.of_built hb (by decide) (.bind fun _ => ends_part _ fun _ => .none) rfl ?_)
    refine (yields_sendFrame _ _ _).bind fun _ t ⟨hpt, _⟩ => ?_
    refine Yields.bind (P := fun _ v => v.pt = t.pt ∧ v.tap ≠ .shiftDr) ?_ fun _ v ⟨hpt', htap⟩ =>
      yields_pure ⟨hpt'.trans (hpt.trans hs.1), htap⟩
    refine Yields.bind (P := fun _ v => v.pt = t.pt) (fun _ v hrun => ?_) fun _ v hpt' => ?_
    · have hkept := (built_sendHeader (K := []) .pp a).pt (by decide) t
      rw [hrun] at hkept
      exact hkept
    · exact (yields_transactSPI data v).bind fun _ w ⟨hpt₂, _, _, htap⟩ => yields_pure (s := w.afterFrame .pp)
        ⟨hpt₂.trans hpt', htap⟩
  | fWait => exact .prologue (flashHazards_clean hs.1 (.inr rfl) (.inl hs.2)) (after_startWait .wait hs)
  | fRead a =>
    have hb : Built [.stream] (openRead a >>= fun _ => done .none) :=
      (built_openRead (by decide) a).bind fun _ => built_done _
    refine .prologue (clean_of_ready hs .plain) (.of_built hb (by decide) (ends_part _ fun _ => .none) rfl fun f t hrun => ?_)
    have hpt := hb.pt (by decide) s
    have hpoll := hb.mustPoll (by decide) (by decide) s
    rw [hrun] at hpt hpoll
    exact ⟨hpt.trans hs.1, hpoll.trans hs.2.1⟩
  | fContRead n =>
    have hb : Built [] (readFill n.toNat >>= fun bs => done (.bytes bs)) :=
      (built_streamSPI _).bind fun _ => built_done _
    refine .prologue (flashHazards_clean hs.1 (.inl hs.2) (.inr rfl))
      (.of_built hb (by decide) (ends_part _ _) rfl fun f t hrun => ?_)
    have hpt := hb.pt (by decide) s
    have hpoll := hb.mustPoll (by decide) (by decide) s
    rw [hrun] at hpt hpoll
    exact ⟨hpt.trans hs.1, hpoll.trans hs.2⟩
  | spiEnd =>
    have hb : Built [] cmdSpiEnd := built_cmdSpiEnd
    refine .of_built hb (by decide) (ends_command (i := .spiEnd) nofun nofun) rfl fun f t hrun => ?_
    have hpt := hb.pt (by decide) s
    have hpoll := hb.mustPoll (by decide) (by decide) s
    have htap : Yields (fun _ t => t.tap = .runTestIdle) (cmdSpiEnd s) :=
      Yields.bind (P := fun _ _ => True) (fun _ _ _ => trivial) fun _ _ _ =>
        Yields.bind (P := fun _ u => u.tap = .runTestIdle) (fun _ _ => tap_of_tapGoTo_ok) fun _ _ h => yields_pure h
    have htap := htap _ _ hrun
    rw [show cmdSpiEnd s = _ from hrun] at hpt hpoll
    exact ⟨hpt.trans hs.1, hpoll.trans hs.2, by rw [htap]; decide⟩

end

/-! ## Macros -/

/-- How an expansion leaves off: the marks are the given ones, and where it waits a write is pending and the rest of it leads on
from the ready phase. -/
def KeepsMarksOn (marks : HazardSet × Bool) : EStateM.Result Stop State Flow → Prop
  | .ok (.ended _ _) t => t.marks = marks
  | .ok (.waiting w) t => t.marks = marks ∧ Phase.pending.At t ∧ ∃ e q, w.outer = some e ∧ Leads .ready e.rest q
  | .error _ t => t.marks = marks

/-- A sub-command, or a round of the wait it is in, and then the rest of the expansion. -/
theorem Phase.After.continue {p q : Phase} {x : Bridge Flow} {e : Expansion} {s : State} {marks : HazardSet × Bool}
    (hx : p.After marks (x s)) (hlead : Leads p e.rest q)
    (hrest : ∀ n t, t.marks = marks → p.At t → KeepsMarksOn marks (runPlan e.kind e.rest n t)) :
    KeepsMarksOn marks ((x >>= continueMacro e) s) := by
  rw [bind_run]
  cases hrun : x s with
  | ok f t =>
    rw [hrun] at hx
    cases f with
    | ended k d =>
      obtain ⟨hmarks, hat⟩ := hx
      exact hrest _ (t.setResult ⟨k, .none, d⟩) hmarks (by cases p <;> exact hat)
    | waiting w =>
      obtain ⟨hmarks, hat, rfl, -⟩ := hx
      exact ⟨hmarks, hat, e, q, rfl, hlead⟩
  | error e t =>
    rw [hrun] at hx
    exact hx

theorem runPlan_keepsMarks {p q : Phase} {items : List PlanItem} (h : Leads p items q) (k : MacroKind) :
    ∀ (n : Notes) (s : State), p.At s → KeepsMarksOn s.marks (runPlan k items n s) := by
  induction h with
  | nil p =>
    intro n s _
    obtain ⟨kind, d, hend⟩ := macroResult_ended k s.dev n
    show KeepsMarksOn s.marks (finishMacro k n s)
    rw [finishMacro_run, hend]
    exact rfl
  | @enter p q rest o h ih =>
    intro n s hs
    rw [runPlan_enter]
    exact ih n (s.enterPhase o) (by cases p <;> exact hs)
  | sub keep hi h _ ih =>
    intro n s hs
    rw [runPlan_sub]
    exact (hi.after hs).continue h fun n t ht hat => ht ▸ ih n t hat
  | @status q rest h ih =>
    intro n s hs
    rw [runPlan_statusIfKnown, bind_run, get_run]
    show KeepsMarksOn s.marks ((if statusWanted s n then cmdReadStatus >>= continueMacro ⟨k, .status, rest, n⟩
      else runPlan k rest n) s)
    split
    · exact (Turn.readStatus.after hs).continue h fun n t ht hat => ht ▸ ih n t hat
    · exact ih n s hs

theorem KeepsMarksOn.idleOnStop {b : Bridge Flow} {s : State} {marks : HazardSet × Bool} (h : KeepsMarksOn marks (b s)) :
    KeepsMarksOn marks (idleOnStop b s) := by
  unfold Machine.idleOnStop
  cases hrun : b s with
  | ok f t =>
    rw [hrun] at h
    exact h
  | error e t =>
    rw [hrun] at h
    exact h

/-! ## Runs -/

/-- A run of a macro so far: the marks are those of its start, and where it waits it can go on like this. -/
def UnmarkedSoFar (h : HazardSet) (s : State) : Prop :=
  s.hz = h ∧ ∀ w, s.task = some w → Phase.pending.At s ∧ ∃ e q, w.outer = some e ∧ Leads .ready e.rest q

theorem commit_unmarked {b : Bridge Flow} {s s' : State} {h : HazardSet} (htask : (endState (b s)).task = none)
    (hs : s.hz = h) (hb : KeepsMarksOn s.marks (b s)) (hc : commit b s = .next s') : UnmarkedSoFar h s' := by
  have hhz : ∀ t : State, t.marks = s.marks → t.hz = h := fun t ht => (Prod.mk.inj ht).1.trans hs
  rcases commit_cases b s with ⟨k, d, t, hrun, hc'⟩ | ⟨w, t, hrun, hc'⟩ | ⟨k, r, t, hrun, hc'⟩ | ⟨f, t, -, hc'⟩
  all_goals cases hc'.symm.trans hc
  all_goals rw [hrun] at hb htask
  · exact ⟨hhz t hb, fun w hw => absurd (htask.symm.trans hw) (by simp)⟩
  · obtain ⟨hmarks, hat, hrest⟩ := hb
    refine ⟨hhz t hmarks, fun w' hw => ?_⟩
    cases hw
    exact ⟨hat, hrest⟩
  · exact ⟨hhz t hb, fun w hw => absurd (htask.symm.trans hw) (by simp)⟩

theorem step_unmarked {s s' : State} {h : HazardSet} {w : Task} (hs : UnmarkedSoFar h s) (htask : s.task = some w)
    (hstep : step s = .next s') : UnmarkedSoFar h s' := by
  obtain ⟨hhz, hwaits⟩ := hs
  obtain ⟨hat, e, q, houter, hlead⟩ := hwaits w htask
  obtain ⟨polls, cmd, outer⟩ := w
  cases houter
  rw [step_of_task htask] at hstep
  have hround : Phase.ready.After (State.marks { s with task := none }) (waitRound cmd polls { s with task := none }) :=
    after_waitRound cmd polls hat
  refine commit_unmarked (s := { s with task := none }) ?_ hhz ?_ hstep
  · exact (resumeTask_updates ⟨polls, cmd, some e⟩ _).keepsPorts.task
  · exact (hround.continue hlead fun n t ht hat => ht ▸ runPlan_keepsMarks hlead e.kind n t hat).idleOnStop

theorem untilIdle_unmarked {h : HazardSet} (k : Nat) : ∀ {o : Host.Outcome State Fault Refusal} {t : State},
    (∀ s, o = .next s → UnmarkedSoFar h s) → untilIdle k o = .next t → UnmarkedSoFar h t := by
  induction k with
  | zero => exact fun hs ht => hs _ ht
  | succ k ih =>
    intro o t hs ht
    cases o with
    | next s =>
      cases htask : s.task with
      | none =>
        simp only [untilIdle, htask, Option.isSome_none, Bool.false_eq_true, if_false] at ht
        cases ht
        exact hs t rfl
      | some w =>
        simp only [untilIdle, htask, Option.isSome_some, if_true] at ht
        exact ih (fun u hu => step_unmarked (hs s rfl) htask hu) ht
    | fault f => cases ht
    | refused r => cases ht

/-- Settles O52: every expansion leads from outside passthrough through its phases, no turn of which marks, and neither do the
steps that go on with it. -/
theorem macrosRaiseNoHazard : Obligations.MacrosRaiseNoHazard := by
  intro i s t k hmacro htask hpoll hrun
  obtain ⟨kind, items, hitems⟩ := exists_expansion hmacro s.cfg
  obtain ⟨q, hlead⟩ := leads_expansion hitems
  refine (untilIdle_unmarked (h := s.hz) k (fun u hu => ?_) hrun).1
  cases hr : s.earlyRefusal (i.operandRefusal s.cfg) with
  | none =>
    rw [exec_macro_run hitems hr] at hu
    exact commit_unmarked ((runMacro_updates kind items s).keepsPorts.task.trans htask) rfl
      (runPlan_keepsMarks hlead kind {} s hpoll).idleOnStop hu
  | some r =>
    cases (exec_macro_refused hmacro hr).symm.trans hu
    exact ⟨rfl, fun w hw => absurd (htask.symm.trans hw) (by simp)⟩

end Sys2Proof.Machine
end

section
/-! SUPPORT. How an expansion runs where its sub-commands end: part after part (45_orchestrator.md R280), Identify first
(R282). And the statement on `M_IDENTIFY` (R283). -/

namespace Sys2Proof.Machine

/-! ## Part after part -/

/-- A part of an expansion runs from some notes and a state to others, and the expansion goes on from there. -/
def Runs (items : List PlanItem) (n : Notes) (s : State) (n' : Notes) (s' : State) : Prop :=
  ∀ k rest, runPlan k (items ++ rest) n s = runPlan k rest n' s'

section
variable {n n' n'' : Notes} {s s' s'' : State}

theorem Runs.nil (n : Notes) (s : State) : Runs [] n s n s := fun _ _ => rfl

theorem Runs.append {a b : List PlanItem} (h : Runs a n s n' s') (h' : Runs b n' s' n'' s'') : Runs (a ++ b) n s n'' s'' :=
  fun k rest => by rw [List.append_assoc, h k (b ++ rest), h' k rest]

theorem Runs.cons {item : PlanItem} {b : List PlanItem} (h : Runs [item] n s n' s') (h' : Runs b n' s' n'' s'') :
    Runs (item :: b) n s n'' s'' := h.append h'

theorem runs_enter (o : OrchState) (n : Notes) (s : State) : Runs [.enter o] n s n (s.enterPhase o) :=
  fun k rest => by
    rw [List.singleton_append, runPlan_enter]
    exact bind_of_ok (enterPhase_run s o) _

theorem runs_sub {i : Instr} {kind : ResultKind} {d : ResultData} {t : State} (h : subCommand i s = .ok (.ended kind d) t)
    (keep : Keep) (n : Notes) : Runs [.sub i keep] n s (keepData keep d n) (t.setResult ⟨kind, .none, d⟩) :=
  fun k rest => by
    rw [List.singleton_append, runPlan_sub, bind_of_ok h]
    rfl

theorem runs_status_skipped (h : statusWanted s n = false) : Runs [.statusIfKnown] n s n s := fun k rest => by
  rw [List.singleton_append, runPlan_statusIfKnown, bind_of_ok (get_run s), h]
  rfl

theorem runs_status_read {kind : ResultKind} {d : ResultData} {t : State} (hwanted : statusWanted s n = true)
    (h : cmdReadStatus s = .ok (.ended kind d) t) :
    Runs [.statusIfKnown] n s (keepData .status d n) (t.setResult ⟨kind, .none, d⟩) := fun k rest => by
  rw [List.singleton_append, runPlan_statusIfKnown, bind_of_ok (get_run s), hwanted, if_pos rfl, bind_of_ok h]
  rfl

/-- An expansion that runs to its end. -/
theorem Runs.toEnd {items : List PlanItem} (h : Runs items n s n' s') (k : MacroKind) :
    runPlan k items n s = .ok (macroResult k s'.dev n') ((s'.enterPhase .done).enterPhase .idle) := by
  have hall := h k []
  rw [List.append_nil] at hall
  exact hall.trans (finishMacro_run k n' s')

end

/-! ## Identify -/

section
variable {s : State}

theorem registerEvents_saw {e : List Event} {t : TapState} {rd bo : Bool} (ht : t = tapAfter s.cfg s.tap e) (code : Byte) :
    e ++ (s.saw e t rd bo).registerEvents code = s.loaded e t code ++ [.goTo .shiftDr] := by
  rw [State.registerEvents, State.saw_tap, ← List.append_assoc, loaded_saw ht]

theorem registerRead_saw {e : List Event} {t : TapState} {rd bo : Bool} (ht : t = tapAfter s.cfg s.tap e) (code : Byte)
    (tx : List Byte) :
    (s.saw e t rd bo).registerRead code tx =
      { s.saw (s.shifted (s.loaded e t code ++ [.goTo .shiftDr]) .dr tx true) (exitState s.cfg .dr) false false with
        pt := false } := by
  rw [State.registerRead, saw_saw _ _ _ _ _ _ _ _ _ ht, shifted_saw ht, registerEvents_saw ht, State.saw_cfg]

/-- What `READ_STATUS` answers after some events (42_identity_status.md R174). -/
def State.statusAt (s : State) (f : Family) (reading : List Event) : StatusReport :=
  let v := assemble s.cfg.wordAssembly (s.rxAt reading .dr (List.replicate ((s.cfg.fam f).statusBits / 8) 0))
  ⟨(s.cfg.fam f).statusBits, v, decodeStatus s.cfg f v⟩

theorem cmdReadStatus_saw {e : List Event} {t : TapState} {rd bo : Bool} {f : Family} {n : Nat} (hs : s.Ready)
    (hc : s.cfg.Wf) (hf : s.knownFamily = some f) (hok : s.OkFor n) (hn : answersOf e + 4 ≤ n)
    (ht : t = tapAfter s.cfg s.tap e) {reading : List Event}
    (hreading : reading = s.loaded e t (s.cfg.fam f).ir.status ++ [.goTo .shiftDr]) :
    cmdReadStatus (s.saw e t rd bo) = .ok (.ended .ok (.status (s.statusAt f reading)))
      { s.saw (s.shifted reading .dr (List.replicate ((s.cfg.fam f).statusBits / 8) 0) true) (exitState s.cfg .dr) false
          false with pt := false } := by
  subst hreading
  rw [← registerRead_saw (rd := rd) (bo := bo) ht]
  refine cmdReadStatus_ok (s := s.saw e t rd bo) hs hc hf (okFor_saw hok hn) rfl ?_
  rw [State.saw_cfg, rxAt_saw ht, registerEvents_saw ht]

/-- The events of `READ_IDCODE` (42_identity_status.md R170). -/
def State.idcodeEvents (s : State) : List Event := s.shifted (s.registerEvents s.cfg.irIdcode) .dr [0, 0, 0, 0] true

/-- What Identify's `READ_IDCODE` leaves beside its events. -/
def State.identifying (s : State) : State :=
  { s with
    pt := false
    dev := some s.identified
    orch := .identify
    orchLog := s.orchLog ++ [.identify]
    result := some (okResult (.device s.freshDevice)) }

/-- The state after Identify's `READ_IDCODE`. -/
def State.idcodeRead (s : State) : State := s.identifying.saw s.idcodeEvents (exitState s.cfg .dr) false false

theorem tapAfter_registerRead (s : State) (code : Byte) (tx : List Byte) :
    tapAfter s.cfg s.tap (s.shifted (s.registerEvents code) .dr tx true) = exitState s.cfg .dr := by
  simp [State.shifted, tapAfter_append, tapAfter]

theorem runs_readIdcode (hs : s.Ready) (hc : s.cfg.Wf) (hok : s.OkFor 4) (n : Notes) :
    Runs [.enter .identify, .sub .readIdcode .fresh] n s { n with fresh := some s.freshDevice } s.idcodeRead := by
  refine (runs_enter .identify n s).cons ?_
  have hrun := runs_sub (i := .readIdcode) (cmdReadIdcode_ok (s := s.enterPhase .identify) hs hc hok) .fresh n
  have hdev : (s.dev <|> some s.freshDevice) = some s.identified := orElse_some_eq_getD _ _
  have hstate : State.setResult { (s.enterPhase .identify).registerRead s.cfg.irIdcode [0, 0, 0, 0] with
      dev := s.dev <|> some s.freshDevice } (okResult (.device s.freshDevice)) = s.idcodeRead := by
    rw [hdev]
    rfl
  rw [← hstate]
  exact hrun

theorem knownFamily_of_dev {u : State} {d : DeviceInfo} (hd : u.dev = some d)
    (h : d.family ≠ .unknown ∨ u.cfg.unknownPolicy = .treatAsA) :
    u.knownFamily = some (if d.family = .unknown then .familyA else d.family) := by
  unfold State.knownFamily
  rw [hd]
  by_cases hu : d.family = .unknown
  · rcases h with h | h
    · exact absurd hu h
    · simp [hu, h]
  · simp [hu]

/-- Under what condition Identify reads no status (R282; log 17). -/
theorem statusWanted_iff {n : Notes} (hn : n.fresh = some s.freshDevice) :
    statusWanted s.idcodeRead n = true ↔
      ¬(s.cfg.unknownPolicy = .refuse ∧ (s.freshDevice.family = .unknown ∨ s.identified.family = .unknown)) := by
  have hdev : s.idcodeRead.dev = some s.identified := rfl
  have hcfg : s.idcodeRead.cfg = s.cfg := rfl
  simp [statusWanted, hn, hdev, hcfg, ← not_or, imp_iff_not_or]

theorem policy_of_not_refuse {c : Cfg} (h : c.unknownPolicy ≠ .refuse) : c.unknownPolicy = .treatAsA := by
  cases hp : c.unknownPolicy with
  | refuse => exact absurd hp h
  | treatAsA => rfl

theorem answersOf_idcodeEvents (s : State) : answersOf s.idcodeEvents ≤ 4 := by
  have hload := answersOf_loaded s [] s.tap s.cfg.irIdcode
  simp only [State.idcodeEvents, State.registerEvents, answersOf_shifted, answersOf_append, answersOf] at hload ⊢
  omega

theorem tapAfter_idcodeEvents (s : State) : tapAfter s.cfg s.tap s.idcodeEvents = exitState s.cfg .dr :=
  tapAfter_registerRead s _ _

end

/-- Settles O36: the IDCODE is read, and unless the device is Unknown under `Refuse` the status register after it; then the
macro ends. -/
theorem identifyResult : Obligations.IdentifyResult := by
  intro s hs hc hok idcode f zeros reading v after
  have hexec : exec .mIdentify s = commit (runMacro .identify planIdentify) s :=
    exec_macro_run rfl (earlyRefusal_opened hs.1)
  have hidcode := runs_readIdcode hs hc (okFor_mono hok (by decide)) {}
  have hend : ∀ {n u}, Runs planIdentify {} s n u →
      exec .mIdentify s = .next (((u.enterPhase .done).enterPhase .idle).answer (okResult (.identity u.dev n.status))) :=
    fun h => hexec.trans (commit_ended (idleOnStop_of_ok (h.toEnd .identify)))
  have hlog : s.orchLog ++ [OrchState.identify] ++ [.done] ++ [.idle] = s.orchLog ++ [.identify, .done, .idle] := by simp
  have hwanted := statusWanted_iff (s := s) (n := { fresh := some s.freshDevice }) rfl
  by_cases hunknown : s.cfg.unknownPolicy = .refuse ∧ (s.freshDevice.family = .unknown ∨ s.identified.family = .unknown)
  · rw [if_pos hunknown]
    have hskip : statusWanted s.idcodeRead { fresh := some s.freshDevice } = false := by
      simpa using fun h => hwanted.mp h hunknown
    rw [hend (hidcode.append (runs_status_skipped hskip))]
    simp only [after, ← hlog]
    rfl
  · rw [if_neg hunknown]
    have husable : s.identified.family ≠ .unknown ∨ s.cfg.unknownPolicy = .treatAsA := by
      by_cases hu : s.identified.family = .unknown
      · exact .inr (policy_of_not_refuse fun hp => hunknown ⟨hp, .inr hu⟩)
      · exact .inl hu
    have hanswers := answersOf_idcodeEvents s
    have hstatus : cmdReadStatus s.idcodeRead = _ :=
      cmdReadStatus_saw (s := s.identifying) (e := s.idcodeEvents) (n := 8) hs hc
        (knownFamily_of_dev (u := s.identifying) rfl husable) hok (by omega) (tapAfter_idcodeEvents s).symm rfl
    rw [hend (hidcode.append (runs_status_read (hwanted.mpr hunknown) hstatus))]
    simp only [after, ← hlog]
    rfl

end Sys2Proof.Machine
end

section
/-! SUPPORT. The oracle's answers and a command without a reference target (10_state.md R49, 60_exceptions.md R333): it goes
on as long as the answers are Ok, and ends at the first that is not. -/

namespace Sys2Proof.Machine

/-- So many answers of the oracle were taken. -/
def Drew (m : Nat) (s t : State) : Prop := t.script = s.script.drop m ∧ t.drawn = s.drawn + m

theorem Drew.refl (s : State) : Drew 0 s s := ⟨rfl, rfl⟩

theorem Drew.trans {m m' : Nat} {s t u : State} (h : Drew m s t) (h' : Drew m' t u) : Drew (m + m') s u := by
  obtain ⟨hscript, hdrawn⟩ := h
  obtain ⟨hscript', hdrawn'⟩ := h'
  exact ⟨by rw [hscript', hscript, List.drop_drop], by omega⟩

theorem Drew.answerAt {m : Nat} {s t : State} (h : Drew m s t) (j : Nat) : t.answerAt j = s.answerAt (m + j) := by
  obtain ⟨hscript, hdrawn⟩ := h
  rw [State.answerAt, State.answerAt, hscript, hdrawn, List.getElem?_drop, Nat.add_assoc]

theorem drew_advance (s : State) : Drew 1 s s.advance := ⟨by simp, rfl⟩

section
variable {α : Type} {K : List Part} {b : Bridge α}

/-- All answers taken were Ok; at a failed one the command stopped. -/
def AnsweredTo (s : State) : EStateM.Result Stop State α → Prop
  | .ok _ t => t.target = none ∧ ∃ m, (∀ j < m, (s.answerAt j).ok = true) ∧ Drew m s t
  | .error e t => t.target = none ∧ ∃ m, (∀ j < m, (s.answerAt j).ok = true) ∧
      (e ≠ .raise .commFailure .transport ∧ Drew m s t ∨
        e = .raise .commFailure .transport ∧ Drew (m + 1) s t ∧ (s.answerAt m).ok = false)

theorem AnsweredTo.after {r : EStateM.Result Stop State α} {s t : State} {m : Nat}
    (hok : ∀ j < m, (s.answerAt j).ok = true) (hdrew : Drew m s t) (h : AnsweredTo t r) : AnsweredTo s r := by
  have hjoin : ∀ m', (∀ j < m', (t.answerAt j).ok = true) → ∀ j < m + m', (s.answerAt j).ok = true := by
    intro m' hok' j hj
    by_cases hlt : j < m
    · exact hok j hlt
    · have := hok' (j - m) (by omega)
      rwa [hdrew.answerAt, show m + (j - m) = j by omega] at this
  cases r with
  | ok a u =>
    obtain ⟨htarget, m', hok', hdrew'⟩ := h
    exact ⟨htarget, m + m', hjoin m' hok', hdrew.trans hdrew'⟩
  | error e u =>
    obtain ⟨htarget, m', hok', hend⟩ := h
    refine ⟨htarget, m + m', hjoin m' hok', ?_⟩
    rcases hend with ⟨he, hdrew'⟩ | ⟨he, hdrew', hfail⟩
    · exact .inl ⟨he, hdrew.trans hdrew'⟩
    · exact .inr ⟨he, hdrew.trans hdrew', by rw [← hdrew.answerAt]; exact hfail⟩

theorem answeredTo_ok_zero {a : α} {s t : State} (htarget : t.target = none) (h : Drew 0 s t) :
    AnsweredTo s (.ok a t) := ⟨htarget, 0, nofun, h⟩

theorem answeredTo_error_zero {e : Stop} {s : State} (htarget : s.target = none) (he : e ≠ .raise .commFailure .transport) :
    AnsweredTo s (.error e s : EStateM.Result Stop State α) := ⟨htarget, 0, nofun, .inl ⟨he, .refl s⟩⟩

theorem driverOk_of_none {s : State} (h : s.target = none) : s.driverOk = (s.answerAt 0).ok := by
  simp [State.driverOk, h, State.nextAnswer]

theorem answeredTo_ok_one {a : α} {s t : State} (hs : s.target = none) (hanswer : s.driverOk = true) (htarget : t.target = none)
    (h : Drew 1 s t) : AnsweredTo s (.ok a t) := by
  refine ⟨htarget, 1, fun j hj => ?_, h⟩
  rw [Nat.lt_one_iff.mp hj, ← driverOk_of_none hs]
  exact hanswer

theorem answeredTo_failed {s t : State} (hs : s.target = none) (hanswer : s.driverOk = false) (htarget : t.target = none)
    (h : Drew 1 s t) : AnsweredTo s (.error (.raise .commFailure .transport) t : EStateM.Result Stop State α) :=
  ⟨htarget, 0, nofun, .inr ⟨rfl, h, by rw [← driverOk_of_none hs]; exact hanswer⟩⟩

theorem Writes.drew {p : Part} {g : State → State} (h : Writes p g) (s : State) : Drew 0 s (g s) := by
  cases h <;> simp [Drew, State.enterPhase]

theorem Built.answeredTo (h : Built K b) : ∀ s : State, s.target = none → AnsweredTo s (b s) := by
  induction h with
  | pure a => exact fun s hs => answeredTo_ok_zero hs (.refl s)
  | assert f => exact fun s hs => answeredTo_error_zero hs nofun
  | raise kind hr => exact fun s hs => answeredTo_error_zero hs fun he => hr (by cases he; rfl)
  | look _ _ ih => exact fun s hs => ih s s hs
  | bind _ _ ihx ihf =>
    intro s hs
    have hx := ihx s hs
    rw [bind_run]
    split
    next a t hrun =>
      rw [hrun] at hx
      obtain ⟨htarget, m, hok, hdrew⟩ := hx
      exact (ihf a t htarget).after hok hdrew
    next e t hrun =>
      rw [hrun] at hx
      exact hx
  | goTo dst =>
    intro s hs
    rcases tapGoTo_cases dst s with ⟨-, h⟩ | ⟨-, -, h⟩ | ⟨-, -, hanswer, h⟩ | ⟨-, -, hanswer, h⟩ <;> rw [h]
    · exact answeredTo_error_zero hs nofun
    · exact answeredTo_ok_zero hs (.refl s)
    · exact answeredTo_ok_one hs hanswer (by simp [hs]) (drew_advance s)
    · exact answeredTo_failed hs hanswer hs (drew_advance s)
  | shift tx n exit =>
    intro s hs
    rcases tapShift_cases tx n exit s with ⟨-, h⟩ | ⟨-, -, h⟩ | ⟨-, -, -, h⟩ | ⟨reg, -, -, -, hanswer, h⟩ |
      ⟨reg, -, -, -, hanswer, h⟩ <;> rw [h]
    · exact answeredTo_error_zero hs nofun
    · exact answeredTo_error_zero hs nofun
    · exact answeredTo_error_zero hs nofun
    · cases exit with
      | false => exact answeredTo_ok_one hs hanswer (by simp [hs]) (drew_advance s)
      | true => cases reg <;> exact answeredTo_ok_one hs hanswer (by simp [hs]) (drew_advance s)
    · exact answeredTo_failed hs hanswer hs (drew_advance s)
  | settle cycles =>
    intro s hs
    rcases tapSettle_cases cycles s with ⟨-, h⟩ | ⟨-, -, h⟩ | ⟨-, -, hanswer, h⟩ | ⟨-, -, hanswer, h⟩ <;> rw [h]
    · exact answeredTo_error_zero hs nofun
    · exact answeredTo_error_zero hs nofun
    · exact answeredTo_ok_one hs hanswer hs (drew_advance s)
    · exact answeredTo_failed hs hanswer hs (drew_advance s)
  | delay t => exact fun s hs => answeredTo_ok_zero hs (.refl s)
  | write _ hg => exact fun s hs => answeredTo_ok_zero (hg.target_none hs) (hg.drew s)
  | stop _ hg _ ih =>
    intro s hs
    have hx := ih s hs
    unfold onStop
    split
    next a t hrun =>
      rw [hrun] at hx
      exact hx
    next e t hrun =>
      rw [hrun] at hx
      obtain ⟨htarget, m, hok, hend⟩ := hx
      have hdrew := fun {m'} (hd : Drew m' s t) => Drew.trans hd (hg.drew t)
      exact ⟨hg.target_none htarget, m, hok, hend.imp (fun ⟨he, hd⟩ => ⟨he, hdrew hd⟩)
        fun ⟨he, hd, hfail⟩ => ⟨he, hdrew hd, hfail⟩⟩

theorem Built.orchLog (h : Built K b) (hK : .phase ∉ K) (s : State) : (endState (b s)).orchLog = s.orchLog := by
  refine h.keeps State.orchLog ?_ ?_ s
  · rintro s t ⟨_, _, _, _, _, _, _, _, -, rfl⟩; rfl
  · intro p hp g hg s
    cases hg with
    | phaseEntered | subCommandEnded => exact absurd hp hK
    | _ => simp

end

/-! ## The phases of a macro that stops -/

theorem subCommand_orchLog (i : Instr) (s : State) : (endState (subCommand i s)).orchLog = s.orchLog :=
  (built_subCommand i).orchLog (by unfold partsOf; split <;> decide) s

/-- Some of the phases of an expansion were entered, in their order (45_orchestrator.md R280, R297). -/
def EnteredSome (items : List PlanItem) (s t : State) : Prop :=
  ∃ entered, t.orchLog = s.orchLog ++ (phases items).take entered

/-- A sub-command, or a round of the wait it is in, that stops, or after which the expansion does. -/
theorem continue_stopped {x : Bridge Flow} {ex : Expansion} {s t : State} {e : Stop}
    (hx : (endState (x s)).orchLog = s.orchLog)
    (hrest : ∀ n u, runPlan ex.kind ex.rest n u = .error e t → EnteredSome ex.rest u t)
    (h : (x >>= continueMacro ex) s = .error e t) : EnteredSome ex.rest s t := by
  rcases bind_eq_error.mp h with hrun | ⟨f, u, hrun, hstop⟩
  · rw [hrun] at hx
    exact ⟨0, by simpa using hx⟩
  · rw [hrun] at hx
    cases f with
    | ended kind d =>
      obtain ⟨entered, ht⟩ := hrest _ (u.setResult ⟨kind, .none, d⟩) hstop
      exact ⟨entered, ht.trans (congrArg (· ++ _) hx)⟩
    | waiting w => cases hstop

theorem runPlan_stopped (k : MacroKind) (items : List PlanItem) : ∀ (n : Notes) (s : State) {e : Stop} {t : State},
    runPlan k items n s = .error e t → EnteredSome items s t := by
  induction items with
  | nil =>
    intro n s e t h
    cases (finishMacro_run k n s).symm.trans h
  | cons item rest ih =>
    intro n s e t h
    cases item with
    | enter o =>
      rw [runPlan_enter] at h
      obtain ⟨entered, ht⟩ := ih n (s.enterPhase o) h
      exact ⟨entered + 1, by rw [ht]; simp [phases, State.enterPhase]⟩
    | sub i keep =>
      rw [runPlan_sub] at h
      exact continue_stopped (ex := ⟨k, keep, rest, n⟩) (subCommand_orchLog i s) (fun n u hu => ih n u hu) h
    | statusIfKnown =>
      rw [runPlan_statusIfKnown, bind_of_ok (get_run s)] at h
      split at h
      · exact continue_stopped (ex := ⟨k, .status, rest, n⟩) (subCommand_orchLog .readStatus s) (fun n u hu => ih n u hu) h
      · exact ih n s h

/-- A macro at the first failed answer: it stops there with COMM_FAILURE(TRANSPORT) and the orchestrator Idle, or it ended or
waits before (R297, 60_exceptions.md R333). -/
theorem idleOnStop_atFailure {c : Cfg} {b : Bridge Flow} {items : List PlanItem} {s : State} {n : Nat}
    (hbuilt : Built macroParts b) (hsafe : Safe c b) (hcfg : s.cfg = c)
    (hstopped : ∀ e t, b s = .error e t → EnteredSome items s t) (htask : s.task = none)
    (hports : (endState (b s)).task = s.task) (herr : s.err = false) (htarget : s.target = none)
    (hok : ∀ j < n, (s.answerAt j).ok = true) (hfail : (s.answerAt n).ok = false) :
    ∃ t, commit (idleOnStop b) s = .next t ∧
      (t.drawn ≤ s.drawn + n ∨
        (t.drawn = s.drawn + n + 1 ∧ t.err = true ∧ t.task = none ∧ t.orch = .idle ∧
          t.results = s.results ++ [failedResult .transport] ∧
          ∃ entered, t.orchLog = s.orchLog ++ (phases items).take entered ++ [.idle])) := by
  have hanswered := hbuilt.answeredTo s htarget
  have hfails := hbuilt.failsByTransport s herr
  have hend := hsafe s hcfg
  have hresults := hbuilt.results s
  have hbefore : ∀ m, (∀ j < m, (s.answerAt j).ok = true) → m ≤ n := by
    intro m hm
    by_contra hlt
    rw [hm n (by omega)] at hfail
    cases hfail
  cases hrun : b s with
  | ok f t =>
    rw [hrun] at hanswered
    obtain ⟨-, m, hm, -, hdrawn⟩ := hanswered
    have hle := hbefore m hm
    cases f with
    | ended k d => exact ⟨_, commit_ended (idleOnStop_of_ok hrun), .inl (show t.drawn ≤ s.drawn + n by omega)⟩
    | waiting w => exact ⟨_, commit_waiting (idleOnStop_of_ok hrun), .inl (show t.drawn ≤ s.drawn + n by omega)⟩
  | error e t =>
    have hstop : idleOnStop b s = .error e (t.enterPhase .idle) := by simp only [idleOnStop, hrun]
    rw [hrun] at hanswered hfails hend hresults hports
    obtain ⟨-, m, hm, hcase⟩ := hanswered
    have hle := hbefore m hm
    cases e with
    | assert f => exact absurd rfl (hend f)
    | raise k r =>
      refine ⟨_, commit_raised hstop, ?_⟩
      rcases hcase with ⟨-, -, hdrawn⟩ | ⟨he, ⟨-, hdrawn⟩, hfailed⟩
      · exact .inl (show t.drawn ≤ s.drawn + n by omega)
      · have hn : m = n := by
          by_contra hne
          rw [hok m (by omega)] at hfailed
          cases hfailed
        subst hn
        obtain ⟨entered, hlog⟩ := hstopped _ t hrun
        cases he
        exact .inr ⟨hdrawn, hfails.mpr rfl, hports.trans htask, rfl, congrArg (· ++ _) hresults, entered,
          congrArg (· ++ [OrchState.idle]) hlog⟩

end Sys2Proof.Machine
end

section
/-! SUPPORT. Where the answers are Ok and its operands in order, every sub-command of an expansion ends with OK, or waits in
its first poll (43_flash_commands.md R218); so an expansion runs to its end or to its first wait (45_orchestrator.md R280). -/

namespace Sys2Proof.Machine

/-! ## Enough answers -/

/-- The next n answers are Ok, or a reference target answers and the phase lets no command take it off. -/
def Phase.Supplied (p : Phase) (n : Nat) (s : State) : Prop :=
  (s.target.isSome = true ∧ p.At s) ∨ ∀ j < n, (s.answerAt j).ok = true

section
variable {p q : Phase} {n : Nat} {s t : State}

theorem Phase.Supplied.okFor (h : p.Supplied n s) : s.OkFor n := h.imp And.left id

theorem Phase.Supplied.mono {m : Nat} (h : p.Supplied n s) (hm : m ≤ n) : p.Supplied m s :=
  h.imp id fun hok j hj => hok j (by omega)

/-- The answers after the marks of a prologue that marks nothing where a reference target is attached. -/
theorem Phase.Supplied.marked (h : p.Supplied n s) {k : FlashKind} (hclean : p.At s → s.flashHazards k = s) :
    (s.flashHazards k).OkFor n := by
  rcases h with ⟨hknown, hat⟩ | hok
  · rw [hclean hat]
    exact .inl hknown
  · exact .inr fun j hj => by simpa [State.answerAt] using hok j hj

theorem Drew.of_marked {m : Nat} {k : FlashKind} (h : Drew m (s.flashHazards k) t) : Drew m s t := by
  simpa [Drew] using h

/-- A sub-command that ends with OK after at most six answers, its read or burst open where the next phase needs one. -/
def Succeeds (q : Phase) (s : State) (r : EStateM.Result Stop State Flow) : Prop :=
  ∃ d t m, r = .ok (.ended .ok d) t ∧ m ≤ 6 ∧ Drew m s t ∧ (q = .reading → t.rdOpen = true) ∧
    (q = .burst → t.burstOpen = true)

/-- What a sub-command needs to succeed, and those after it. -/
structure Able (p : Phase) (n : Nat) (s : State) : Prop where
  ready : s.Ready
  wf : s.cfg.Wf
  family : s.knownFamily.isSome = true
  read : p = .reading → s.rdOpen = true
  burst : p = .burst → s.burstOpen = true
  supply : p.Supplied n s

theorem Able.mono {m : Nat} (h : Able p n s) (hm : m ≤ n) : Able p m s :=
  ⟨h.ready, h.wf, h.family, h.read, h.burst, h.supply.mono hm⟩

theorem answersOf_enableEvents_framed (s : State) (t : TapState) (frame : List Byte) (exit : Bool) :
    answersOf (s.framed s.enableEvents t frame exit) ≤ 4 := by
  have hframe := answersOf_framed s s.enableEvents t frame exit
  have henable := answersOf_framed s [] s.tap [s.cfg.flashOps.wren] true
  simp only [State.enableEvents, answersOf] at *
  omega

/-- Every turn but the two that wait. -/
theorem Turn.succeeds {i : Instr} (h : Turn p i q) (hwait : i ≠ .fWait) (hunprotect : i ≠ .fUnprotect) (hs : Able p 6 s)
    (hop : i.operandRefusal s.cfg = none) : Succeeds q s (subCommand i s) := by
  have hready := hs.ready
  have hwf := hs.wf
  have hok : ∀ {m}, m ≤ 6 → s.OkFor m := fun hm => okFor_mono hs.supply.okFor hm
  obtain ⟨f, hf⟩ := Option.isSome_iff_exists.mp hs.family
  have hmarked : ∀ {k m}, (p.At s → s.flashHazards k = s) → m ≤ 6 → (s.flashHazards k).OkFor m :=
    fun hclean hm => okFor_mono (hs.supply.marked hclean) hm
  have hregister : ∀ code, answersOf (s.registerEvents code) ≤ 3 := fun code => by
    have := answersOf_loaded s [] s.tap code
    simp only [State.registerEvents, answersOf_append, answersOf] at this ⊢
    omega
  have hframed : ∀ (u : State) frame exit, answersOf (u.framed [] u.tap frame exit) ≤ 6 := fun u frame exit => by
    have := answersOf_framed u [] u.tap frame exit
    simp only [answersOf] at this
    omega
  cases h with
  | readIdcode =>
    refine ⟨_, _, _, cmdReadIdcode_ok hready hwf (hok (by decide)), ?_, ⟨rfl, rfl⟩, nofun, nofun⟩
    have := hregister s.cfg.irIdcode
    rw [answersOf_shifted]
    omega
  | readStatus =>
    refine ⟨_, _, _, cmdReadStatus_ok hready hwf hf (hok (by decide)) rfl rfl, ?_, ⟨rfl, rfl⟩, nofun, nofun⟩
    have := hregister (s.cfg.fam f).ir.status
    rw [answersOf_shifted]
    omega
  | simple n hi hp =>
    rw [subCommand_of_simpleName hi]
    refine ⟨_, _, _, simpleCfg_ok hready hwf hf (hok (by decide)) n, ?_, ⟨rfl, rfl⟩, nofun, nofun⟩
    have := answersOf_simpleEvents s ((s.cfg.fam f).ir.get n) ((s.cfg.fam f).param.get n)
    simp only [answersOf_append, answersOf]
    omega
  | cBurst =>
    refine ⟨_, _, _, cmdCBurst_ok hready hwf hf (hok (by decide)), ?_, ⟨rfl, rfl⟩, nofun, fun _ => rfl⟩
    have := answersOf_loaded s [] s.tap (s.cfg.fam f).ir.burst
    simp only [answersOf_append, answersOf] at this ⊢
    omega
  | cBurstData data =>
    have hlen : xferLenOk s.cfg data.length = true := ite_none_eq_none_iff.mp hop
    exact ⟨_, _, _, cmdCBurstData_ok hready (hok (by decide)) (hs.burst rfl) hlen, hframed s data false, ⟨rfl, rfl⟩, nofun,
      fun _ => rfl⟩
  | cPassthrough =>
    refine ⟨_, _, _, cmdCPassthrough_ok hready hwf hf (hok (by decide)), ?_, ⟨rfl, rfl⟩, nofun, nofun⟩
    have := hregister (s.cfg.fam f).ir.passthrough
    have := answersOf_goTos (exitState s.cfg .dr) .runTestIdle
    rw [answersOf_append, answersOf_shifted]
    omega
  | fReset =>
    obtain ⟨-, -, -, -, -, -, -, hframe⟩ := hwf
    have hrun := cmdFReset_ok hready rfl (hmarked (fun hat => clean_of_ready hat .plain) (by decide)) (by simpa using hframe)
    exact ⟨_, _, _, hrun, hframed _ _ _, Drew.of_marked ⟨rfl, rfl⟩, nofun, nofun⟩
  | fRdid =>
    have hrun := cmdFRdid_ok hready rfl (hmarked (fun hat => clean_of_ready hat .plain) (by decide)) rfl
    exact ⟨_, _, _, hrun, hframed _ _ _, Drew.of_marked ⟨rfl, rfl⟩, nofun, nofun⟩
  | fRdsr1 =>
    have hrun := flashFrame_ok (k := .poll) hready (by decide) rfl (hmarked (fun hat => clean_of_ready hat .poll) (by decide))
      .rdsr1 (operands := [0x00]) rfl fun rx => .byte (registerByte rx)
    exact ⟨_, _, _, hrun, hframed _ _ _, Drew.of_marked ⟨rfl, rfl⟩, nofun, nofun⟩
  | fWren =>
    have hrun := flashFrame_ok (k := .plain) hready (by decide) rfl (hmarked (fun hat => clean_of_ready hat .plain) (by decide))
      .wren (operands := []) rfl fun _ => .none
    exact ⟨_, _, _, hrun, hframed _ _ _, Drew.of_marked ⟨rfl, rfl⟩, nofun, nofun⟩
  | fUnprotect => exact absurd rfl hunprotect
  | fCe =>
    have hrun := eraseFrames_ok hready rfl (hmarked (fun hat => clean_of_ready hat .plain) (by decide)) .ce []
    exact ⟨_, _, _, hrun, Nat.le_trans (answersOf_enableEvents_framed _ _ _ _) (by decide), Drew.of_marked ⟨rfl, rfl⟩, nofun, nofun⟩
  | erase g a =>
    have hrun := eraseFrames_ok hready rfl (hmarked (fun hat => clean_of_ready hat .plain) (by decide))
    cases g <;> exact ⟨_, _, _, hrun _ _, Nat.le_trans (answersOf_enableEvents_framed _ _ _ _) (by decide),
      Drew.of_marked ⟨rfl, rfl⟩, nofun, nofun⟩
  | fPp a data =>
    have hlen : pageLenOk s.cfg a data.length = true := ite_none_eq_none_iff.mp hop
    have hrun := cmdFPp_ok hready hlen rfl (hmarked (fun hat => clean_of_ready hat .plain) (by decide))
    refine ⟨_, _, _, hrun, ?_, Drew.of_marked ⟨rfl, rfl⟩, nofun, nofun⟩
    have hheader := answersOf_enableEvents_framed (s.flashHazards .plain) (exitState (s.flashHazards .plain).cfg .dr)
      ((s.flashHazards .plain).cfg.flashOps.pp :: be24 a) false
    refine Nat.le_trans (answersOf_framed _ _ _ _ _) ?_
    omega
  | fWait => exact absurd rfl hwait
  | fRead a =>
    have hrun := cmdFRead_ok a hready rfl (hmarked (fun hat => clean_of_ready hat .plain) (by decide))
    exact ⟨_, _, _, hrun, hframed _ _ _, Drew.of_marked ⟨rfl, rfl⟩, fun _ => rfl, nofun⟩
  | fContRead n =>
    have hlen : xferLenOk s.cfg n.toNat = true := ite_none_eq_none_iff.mp hop
    have hrun := cmdFContRead_ok hready (hs.read rfl) hlen rfl
      (hmarked (fun hat => flashHazards_clean hat.1 (.inl hat.2) (.inr rfl)) (by decide))
    refine ⟨_, _, _, hrun, hframed _ _ _, Drew.of_marked ⟨rfl, rfl⟩, fun _ => ?_, nofun⟩
    exact (State.flashHazards_rdOpen s .contRead).trans (hs.read rfl)
  | spiEnd =>
    refine ⟨_, _, _, cmdSpiEnd_ok hready (hok (by decide)), ?_, ⟨rfl, rfl⟩, nofun, nofun⟩
    have := answersOf_goTos s.tap .runTestIdle
    omega

theorem Able.congr {u : State} (h : Able p n s) (hsession : u.session = s.session) (herr : u.err = s.err) (hcfg : u.cfg = s.cfg)
    (hdev : u.dev = s.dev) (hread : u.rdOpen = s.rdOpen) (hburst : u.burstOpen = s.burstOpen) (hat : p.At s → p.At u)
    (htarget : u.target = s.target) (hscript : u.script = s.script) (hdrawn : u.drawn = s.drawn) : Able p n u where
  ready := ⟨hsession.trans h.ready.1, herr.trans h.ready.2⟩
  wf := hcfg ▸ h.wf
  family := by
    have hfamily := h.family
    unfold State.knownFamily at hfamily ⊢
    rwa [hdev, hcfg]
  read hp := hread.trans (h.read hp)
  burst hp := hburst.trans (h.burst hp)
  supply := by
    refine h.supply.imp (fun ⟨hknown, hp⟩ => ⟨htarget ▸ hknown, hat hp⟩) fun hok j hj => ?_
    rw [State.answerAt, hscript, hdrawn]
    exact hok j hj

theorem Able.setResult (h : Able p n s) (r : Result) : Able p n (s.setResult r) :=
  h.congr rfl rfl rfl rfl rfl rfl (fun hat => by cases p <;> exact hat) rfl rfl rfl

theorem Able.enterPhase (h : Able p n s) (o : OrchState) : Able p n (s.enterPhase o) :=
  h.congr rfl rfl rfl rfl rfl rfl (fun hat => by cases p <;> exact hat) rfl rfl rfl

/-- A sub-command that goes on leaves a session that is ready, and its device. -/
theorem subCommand_goesOn {i : Instr} {f : Flow} (hready : s.Ready) (h : subCommand i s = .ok f t) :
    t.Ready ∧ t.cfg = s.cfg ∧ t.orchLog = s.orchLog ∧ ∀ d, s.dev = some d → t.dev = some d := by
  have hupdates := subCommand_updates i s
  have herr := ((built_subCommand i).mono (partsOf_subset i)).failsByTransport s hready.2
  have hlog := subCommand_orchLog i s
  rw [h] at hupdates herr hlog
  exact ⟨⟨hupdates.session.trans hready.1, herr⟩, hupdates.keepsPorts.cfg, hlog, fun d => hupdates.dev_eq_some⟩

/-- The family stays that of the session's device (42_identity_status.md R173). -/
theorem knownFamily_kept {f : Family} (hcfg : t.cfg = s.cfg) (hdev : ∀ d, s.dev = some d → t.dev = some d)
    (h : s.knownFamily = some f) : t.knownFamily = some f := by
  cases hd : s.dev with
  | none => simp [State.knownFamily, hd] at h
  | some d =>
    unfold State.knownFamily at h ⊢
    rw [hdev d hd, hcfg]
    rwa [hd] at h

/-- Every turn but the two that wait leaves the next sub-command able. -/
theorem Turn.able {i : Instr} (h : Turn p i q) (hwait : i ≠ .fWait) (hunprotect : i ≠ .fUnprotect) (hs : Able p (6 + n) s)
    (hop : i.operandRefusal s.cfg = none) :
    ∃ d t, subCommand i s = .ok (.ended .ok d) t ∧ Able q n t ∧ t.orchLog = s.orchLog ∧ t.cfg = s.cfg := by
  obtain ⟨d, t, m, hrun, hm, hdrew, hread, hburst⟩ := h.succeeds hwait hunprotect (hs.mono (by omega)) hop
  obtain ⟨hready, hcfg, hlog, hdev⟩ := subCommand_goesOn hs.ready hrun
  refine ⟨d, t, hrun, ⟨hready, hcfg ▸ hs.wf, ?_, hread, hburst, ?_⟩, hlog, hcfg⟩
  · obtain ⟨f, hf⟩ := Option.isSome_iff_exists.mp hs.family
    rw [knownFamily_kept hcfg hdev hf]
    rfl
  · rcases hs.supply with ⟨hknown, hat⟩ | hok
    · have hafter := h.after hat
      rw [hrun] at hafter
      obtain ⟨hmarks, hat'⟩ := hafter
      exact .inl ⟨(Prod.mk.inj hmarks).2.trans hknown, hat'⟩
    · refine .inr fun j hj => ?_
      rw [hdrew.answerAt]
      exact hok _ (by omega)

/-! ## The first poll of a wait -/

/-- From the counter 0 no reading satisfies a debounce of 2 or more (43_flash_commands.md R218). -/
theorem countAfterPoll_ne {poll : List Byte} (hcount : s.rdyCount = 0) (hdebounce : 2 ≤ s.cfg.readyDebounce) :
    s.countAfterPoll poll ≠ s.cfg.readyDebounce := by
  unfold State.countAfterPoll
  rw [hcount]
  split <;> omega

theorem fWait_waits (hs : Able .pending 2 s) (hdebounce : 2 ≤ s.cfg.readyDebounce) :
    ∃ t, subCommand .fWait s = .ok (.waiting ⟨1, .wait, none⟩) t := by
  have hok := hs.supply.marked (k := .poll) fun hat => flashHazards_clean hat.1 (.inr rfl) (.inl hat.2)
  have herr : (s.flashHazards .poll).err = false := (State.flashHazards_err s .poll).trans hs.ready.2
  have hcfg : (s.flashHazards .poll).cfg = s.cfg := State.flashHazards_cfg s .poll
  have hround := waitRound_again (s := { s.flashHazards .poll with rdyCount := 0 }) rfl herr hok
    (countAfterPoll_ne rfl (hcfg.symm ▸ hdebounce)) .wait 0
  exact ⟨_, (cmdFWait_run hs.ready rfl).trans hround⟩

theorem fUnprotect_waits (hs : Able .enabled 4 s) (hdebounce : 2 ≤ s.cfg.readyDebounce) :
    ∃ t, subCommand .fUnprotect s = .ok (.waiting ⟨1, .unprotect, none⟩) t := by
  obtain ⟨m, hm⟩ : ∃ m, m = (s.flashHazards .plain).writeEnableHazard := ⟨_, rfl⟩
  have hok : m.OkFor 4 := by
    rcases hs.supply with ⟨hknown, hpt, hpoll, htap, hwe⟩ | hok
    · rw [hm, clean_of_ready ⟨hpt, hpoll, htap⟩, writeEnableHazard_clean hwe]
      exact .inl hknown
    · exact .inr fun j hj => by simpa [hm, State.answerAt] using hok j hj
  have herr : m.err = false := by simp [hm, hs.ready.2]
  have hcfg : m.cfg = s.cfg := by simp [hm]
  have hanswers := answersOf_framed m [] m.tap [m.cfg.flashOps.wrsr1, 0] true
  have hround := waitRound_again
    (s := m.unprotecting.saw (m.framed [] m.tap [m.cfg.flashOps.wrsr1, 0] true) (exitState m.cfg .dr) false false) rfl herr
    (okFor_saw (s := m.unprotecting) hok (by simp only [answersOf] at hanswers; omega))
    (countAfterPoll_ne rfl (hcfg.symm ▸ hdebounce)) .unprotect 0
  exact ⟨_, (cmdFUnprotect_run hs.ready hm (okFor_mono hok (by decide))).trans hround⟩

/-! ## To the first wait -/

/-- No item of an expansion compares. -/
def comparesNothing (items : List PlanItem) : Bool :=
  items.all fun item => match item with
    | .sub _ (.compare _ _) => false
    | _ => true

theorem keepData_first {keep : Keep} (h : ∀ a e, keep ≠ .compare a e) (d : ResultData) (n : Notes) :
    (keepData keep d n).first = n.first := by
  cases keep with
  | compare a e => exact absurd rfl (h a e)
  | nothing => rfl
  | _ => cases d <;> rfl

theorem Turn.of_fWait {i : Instr} (h : Turn p i q) (hi : i = .fWait) : p = .pending ∧ q = .ready := by
  cases h with
  | fWait => exact ⟨rfl, rfl⟩
  | simple n hn => subst hi; cases hn
  | erase g a => cases g <;> cases hi
  | _ => cases hi

theorem Turn.of_fUnprotect {i : Instr} (h : Turn p i q) (hi : i = .fUnprotect) : p = .enabled ∧ q = .ready := by
  cases h with
  | fUnprotect => exact ⟨rfl, rfl⟩
  | simple n hn => subst hi; cases hn
  | erase g a => cases g <;> cases hi
  | _ => cases hi

/-- An expansion runs to its end or to its first wait, its phases entered so far. -/
def ReachesWait (items : List PlanItem) (n : Notes) (s : State) : Prop :=
  match firstWait items with
  | none => ∃ n' t, Runs items n s n' t ∧ t.Ready ∧ t.orchLog = s.orchLog ++ phases items ∧
      (comparesNothing items = true → n'.first = n.first)
  | some (before, cmd, keep, rest) => ∃ n' t,
      (∀ k, runPlan k items n s = .ok (.waiting ⟨1, cmd, some ⟨k, keep, rest, n'⟩⟩) t) ∧ t.Ready ∧
        t.orchLog = s.orchLog ++ phases before

/-- Items before the first wait, and the rest. -/
theorem ReachesWait.append {pre rest : List PlanItem} {notes notes' : Notes} (hrun : Runs pre notes s notes' t)
    (hwait : firstWait (pre ++ rest) = (firstWait rest).map fun w => (pre ++ w.1, w.2))
    (hlog : t.orchLog = s.orchLog ++ phases pre) (hfirst : comparesNothing pre = true → notes'.first = notes.first)
    (h : ReachesWait rest notes' t) : ReachesWait (pre ++ rest) notes s := by
  unfold ReachesWait at h ⊢
  rw [hwait]
  cases hrest : firstWait rest with
  | none =>
    rw [hrest] at h
    obtain ⟨n', u, hruns, hready, hlog', hfirst'⟩ := h
    refine ⟨n', u, hrun.append hruns, hready, by rw [hlog', hlog, phases_append, List.append_assoc], fun hc => ?_⟩
    rw [comparesNothing, List.all_append, Bool.and_eq_true] at hc
    exact (hfirst' hc.2).trans (hfirst hc.1)
  | some w =>
    rw [hrest] at h
    obtain ⟨before, cmd, keep, rest'⟩ := w
    obtain ⟨n', u, hruns, hready, hlog'⟩ := h
    exact ⟨n', u, fun k => (hrun k rest).trans (hruns k), hready, by rw [hlog', hlog, phases_append, List.append_assoc]⟩

theorem firstWait_sub {i : Instr} (hwait : i ≠ .fWait) (hunprotect : i ≠ .fUnprotect) (keep : Keep) (rest : List PlanItem) :
    firstWait ([.sub i keep] ++ rest) = (firstWait rest).map fun w => ([.sub i keep] ++ w.1, w.2) := by
  cases i <;> first | rfl | contradiction

theorem Leads.reachesWait {items : List PlanItem} (h : Leads p items q) : ∀ (n : Notes) (s : State),
    Able p (6 * items.length) s → AllSub (fun i => i.operandRefusal s.cfg = none) items → 2 ≤ s.cfg.readyDebounce →
    ReachesWait items n s := by
  induction h with
  | nil p => exact fun n s hs _ _ => ⟨n, s, .nil n s, hs.ready, by simp [phases], fun _ => rfl⟩
  | @enter p q rest o h ih =>
    intro n s hs hops hdebounce
    rw [List.length_cons] at hs
    exact (ih n (s.enterPhase o) ((hs.mono (by omega)).enterPhase o) hops hdebounce).append (pre := [.enter o])
      (runs_enter o n s) rfl rfl fun _ => rfl
  | @sub p p' q rest i keep hi h _ ih =>
    intro n s hs hops hdebounce
    obtain ⟨hop, hops⟩ := List.forall_mem_cons.mp hops
    have hnext : ∀ {t : State}, t.cfg = s.cfg → AllSub (fun i => i.operandRefusal t.cfg = none) rest ∧
        2 ≤ t.cfg.readyDebounce := fun h => h.symm ▸ ⟨hops, hdebounce⟩
    replace hs : Able p (6 + 6 * rest.length) s := hs.mono (by rw [List.length_cons]; omega)
    by_cases hwait : i = .fWait
    · subst hwait
      obtain ⟨rfl, -⟩ := hi.of_fWait rfl
      obtain ⟨t, hrun⟩ := fWait_waits (hs.mono (by omega)) hdebounce
      obtain ⟨hready, -, hlog, -⟩ := subCommand_goesOn hs.ready hrun
      refine ⟨n, t, fun k => ?_, hready, by simpa [phases] using hlog⟩
      rw [runPlan_sub, bind_of_ok hrun]
      rfl
    by_cases hunprotect : i = .fUnprotect
    · subst hunprotect
      obtain ⟨rfl, -⟩ := hi.of_fUnprotect rfl
      obtain ⟨t, hrun⟩ := fUnprotect_waits (hs.mono (by omega)) hdebounce
      obtain ⟨hready, -, hlog, -⟩ := subCommand_goesOn hs.ready hrun
      refine ⟨n, t, fun k => ?_, hready, by simpa [phases] using hlog⟩
      rw [runPlan_sub, bind_of_ok hrun]
      rfl
    · obtain ⟨d, t, hrun, hable, hlog, hcfg⟩ := hi.able hwait hunprotect hs hop
      refine ReachesWait.append (pre := [.sub i keep]) (runs_sub hrun keep n) (firstWait_sub hwait hunprotect keep rest)
        (by simpa [phases] using hlog) (fun hc => ?_) (ih _ _ (hable.setResult _) (hnext hcfg).1 (hnext hcfg).2)
      refine keepData_first (fun a e hk => ?_) d n
      rw [hk] at hc
      cases hc
  | @status q rest h ih =>
    intro n s hs hops hdebounce
    obtain ⟨-, hops⟩ := List.forall_mem_cons.mp hops
    have hnext : ∀ {t : State}, t.cfg = s.cfg → AllSub (fun i => i.operandRefusal t.cfg = none) rest ∧
        2 ≤ t.cfg.readyDebounce := fun h => h.symm ▸ ⟨hops, hdebounce⟩
    replace hs : Able .outside (6 + 6 * rest.length) s := hs.mono (by rw [List.length_cons]; omega)
    cases hwanted : statusWanted s n with
    | false =>
      exact (ih n s (hs.mono (by omega)) hops hdebounce).append (pre := [.statusIfKnown]) (runs_status_skipped hwanted) rfl
        (by simp [phases]) fun _ => rfl
    | true =>
      obtain ⟨d, t, hrun, hable, hlog, hcfg⟩ := Turn.readStatus.able nofun nofun hs rfl
      exact ReachesWait.append (pre := [.statusIfKnown]) (runs_status_read hwanted hrun) rfl (by simpa [phases] using hlog)
        (fun _ => keepData_first (keep := .status) (fun _ _ => nofun) d n) (ih _ _ (hable.setResult _) (hnext hcfg).1 (hnext hcfg).2)

end

end Sys2Proof.Machine
end

section
/-! SUPPORT. The expansions under O51: how they start, that their operands are in order, and where one has no wait; and the
statement that every macro reaches its end or its first wait, or stops as 45_orchestrator.md R297 says. -/

namespace Sys2Proof.Machine

/-! ## How an expansion starts -/

theorem expansion_starts {c : Cfg} {i : Instr} {k : MacroKind} {items : List PlanItem} (h : i.expansion c = some (k, items)) :
    ∃ tail, items = [.enter .identify, .sub .readIdcode .fresh] ++ (.statusIfKnown :: tail) := by
  cases i <;> first | contradiction | (cases h; exact ⟨_, rfl⟩)

theorem okFor_of_okThrough {s : State} {i : Instr} {k : MacroKind} {items : List PlanItem}
    (hitems : i.expansion s.cfg = some (k, items)) (hok : s.OkThrough (6 * items.length)) : s.OkFor 4 := by
  obtain ⟨tail, rfl⟩ := expansion_starts hitems
  rw [List.length_append, List.length_cons, List.length_cons] at hok
  exact hok.imp And.left fun hanswers j hj => hanswers j (by omega)

/-- Every macro but `M_IDENTIFY` enters its own phase and enables the configuration (R282, R284 to R294). -/
theorem expansion_enables {c : Cfg} {i : Instr} {k : MacroKind} {items : List PlanItem} (h : i.expansion c = some (k, items))
    (hk : k ≠ .identify) : ∃ o tail, items =
      [.enter .identify, .sub .readIdcode .fresh] ++ (.statusIfKnown :: .enter o :: .sub .cEnable .nothing :: tail) := by
  cases i with
  | mIdentify => cases h; exact absurd rfl hk
  | mProbe | mLoadSram | mProgram | mRead | mErase | mVerify => cases h; exact ⟨_, _, rfl⟩
  | _ => cases h

theorem Turn.of_readIdcode {p q : Phase} {i : Instr} (h : Turn p i q) (hi : i = .readIdcode) : q = .outside := by
  cases h with
  | readIdcode => rfl
  | simple n hn => subst hi; cases hn
  | erase g a => cases g <;> cases hi
  | _ => cases hi

theorem Leads.afterIdcode {q : Phase} {tail : List PlanItem}
    (h : Leads .outside ([.enter .identify, .sub .readIdcode .fresh] ++ tail) q) : Leads .outside tail q := by
  cases h with
  | enter _ h =>
    cases h with
    | sub _ hi h _ => exact hi.of_readIdcode rfl ▸ h

/-! ## Operands -/

theorem length_le_of_mem_chunks {n k : Nat} (hn : 0 < n) {data d : List Byte} (hk : data.length ≤ k) (hd : d ∈ chunks n k data) :
    d.length ≤ data.length := by
  calc d.length ≤ (chunks n k data).flatten.length := (List.sublist_flatten_of_mem hd).length_le
    _ = data.length := by rw [flatten_chunks hn k data hk]

/-- A chunk of a read is no longer than a transfer may be (43_flash_commands.md R217). -/
theorem contRead_wellFormed {c : Cfg} (hchunk : c.readChunk ≤ c.maxXferBytes) {n : Nat} (hpos : 1 ≤ n) (hn : n ≤ c.readChunk)
    (hlen : n < 2 ^ 32) : (Instr.fContRead (BitVec.ofNat 32 n)).WellFormed c := by
  simp only [Instr.WellFormed, xferLenOk, BitVec.toNat_ofNat, Nat.mod_eq_of_lt hlen, Bool.and_eq_true, decide_eq_true_eq]
  omega

theorem verifyChunks_wellFormed {c : Cfg} (hpos : 0 < c.readChunk) (hchunk : c.readChunk ≤ c.maxXferBytes) {offset : Addr}
    {data : List Byte} (hdata : data.length ≤ 2 ^ 24) :
    ∀ p ∈ verifyChunks c offset data, (Instr.fContRead (BitVec.ofNat 32 p.2.length)).WellFormed c := by
  intro p hp
  have hmem : p.2 ∈ chunks c.readChunk data.length data := by
    rw [← addressed_map_snd _ _ offset.toNat]
    exact List.mem_map_of_mem hp
  obtain ⟨hone, hle⟩ := length_of_mem_chunks hpos _ _ _ hmem
  have := length_le_of_mem_chunks hpos (Nat.le_refl _) hmem
  exact contRead_wellFormed hchunk hone hle (by omega)

theorem readSizes_wellFormed {c : Cfg} (hpos : 0 < c.readChunk) (hchunk : c.readChunk ≤ c.maxXferBytes) (len : Len) :
    ∀ n ∈ readSizes c len.toNat, (Instr.fContRead (BitVec.ofNat 32 n)).WellFormed c := by
  intro n hn
  rw [readSizes, sizes_eq] at hn
  obtain ⟨d, hd, rfl⟩ := List.mem_map.mp hn
  obtain ⟨hone, hle⟩ := length_of_mem_chunks hpos _ _ _ hd
  have := length_le_of_mem_chunks hpos (by simp) hd
  rw [List.length_replicate] at this
  exact contRead_wellFormed hchunk hone hle (by omega)

theorem pagePieces_wellFormed {c : Cfg} (hpage : 0 < c.pageSize) {offset : Addr} {data : List Byte}
    (hrange : rangeOk offset data.length = true) :
    ∀ p ∈ pagePieces c offset data, (Instr.fPp (BitVec.ofNat 24 p.1) p.2).WellFormed c := by
  intro p hp
  obtain ⟨k, hk⟩ := List.mem_iff_getElem?.mp hp
  exact ((programPieces c offset data hpage hrange).2 k p.1 p.2 hk).2.2.1

/-- The operands of every sub-command of a macro are in order where those of its loops are. -/
theorem operands_of_loops {c : Cfg} {i : Instr} {k : MacroKind} {items : List PlanItem}
    (hloops : LoopCommands (fun i => i.operandRefusal c = none) c i) (h : i.expansion c = some (k, items)) :
    AllSub (fun i => i.operandRefusal c = none) items :=
  allSub_expansion (P := fun i => i.operandRefusal c = none) (by simp [plainCommands, Instr.operandRefusal])
    (fun g a => by cases g <;> rfl) (fun _ => rfl) hloops h

/-- The operands of every sub-command of a macro are in order where the macro's are, and a read's chunk is no longer than a
transfer may be. -/
theorem operands_expansion {c : Cfg} {i : Instr} {k : MacroKind} {items : List PlanItem} (hwf : c.Wf)
    (hchunk : c.readChunk ≤ c.maxXferBytes) (hi : i.WellFormed c) (h : i.expansion c = some (k, items)) :
    AllSub (fun i => i.operandRefusal c = none) items := by
  obtain ⟨⟨⟨hpage, -⟩, ⟨hread, -⟩, ⟨hsram, -⟩, -, -, -, -, -, -, -, -, -, -, -, -, hxfer, -⟩, -, -⟩ := hwf
  have hnone : ∀ {j : Instr}, j.WellFormed c → j.operandRefusal c = none := (operandRefusal_eq_none_iff c _).mpr
  refine operands_of_loops ?_ h
  cases i with
  | mLoadSram data opts =>
    intro d hd
    obtain ⟨hone, hle⟩ := length_of_mem_chunks hsram _ _ _ hd
    exact hnone (by simp only [Instr.WellFormed, xferLenOk, Bool.and_eq_true, decide_eq_true_eq]; omega)
  | mProgram offset gran data opts =>
    obtain ⟨-, -, hrange, hlen⟩ := hi
    exact ⟨fun p hp => hnone (pagePieces_wellFormed hpage hrange p hp),
      fun p hp => hnone (verifyChunks_wellFormed hread hchunk (of_decide_eq_true hlen) p hp)⟩
  | mRead offset len opts => exact fun n hn => hnone (readSizes_wellFormed hread hchunk len n hn)
  | mVerify offset data opts =>
    obtain ⟨-, -, hlen⟩ := hi
    exact fun p hp => hnone (verifyChunks_wellFormed hread hchunk (of_decide_eq_true hlen) p hp)
  | _ => trivial

/-! ## Expansions without a wait -/

theorem fWait_not_mem_of_firstWait {items : List PlanItem} (h : firstWait items = none) : .fWait ∉ subCommands items := by
  induction items with
  | nil => exact nofun
  | cons item rest ih =>
    cases item with
    | enter o => exact ih (Option.map_eq_none_iff.mp h)
    | statusIfKnown => simpa [subCommands] using ih (Option.map_eq_none_iff.mp h)
    | sub i keep =>
      cases i <;> first | contradiction | simpa [subCommands] using ih (Option.map_eq_none_iff.mp h)

theorem comparesNothing_append (a b : List PlanItem) :
    comparesNothing (a ++ b) = (comparesNothing a && comparesNothing b) := List.all_append

theorem comparesNothing_flatMap {β : Type} {l : List β} {f : β → List PlanItem} (h : ∀ x, comparesNothing (f x) = true) :
    comparesNothing (l.flatMap f) = true := by
  induction l with
  | nil => rfl
  | cons x xs ih => rw [List.flatMap_cons, comparesNothing_append, h, ih]; rfl

theorem comparesNothing_map {β : Type} {l : List β} {f : β → PlanItem} (h : ∀ x, comparesNothing [f x] = true) :
    comparesNothing (l.map f) = true := by
  rw [List.map_eq_flatMap]
  exact comparesNothing_flatMap h

theorem comparesNothing_refreshPhase (opts : Byte) : comparesNothing (refreshPhase opts) = true := by
  unfold refreshPhase
  split <;> rfl

/-- Only `M_VERIFY` compares without a wait before: what `M_PROGRAM` compares it has programmed (R286). -/
theorem comparesNothing_expansion {c : Cfg} {i : Instr} {k : MacroKind} {items : List PlanItem}
    (h : i.expansion c = some (k, items)) (hwait : firstWait items = none) (hk : k ≠ .verify) :
    comparesNothing items = true := by
  have hrange : ∀ offset length g, comparesNothing (eraseRange c offset length g) = true := fun _ _ _ =>
    comparesNothing_flatMap fun _ => rfl
  have hentry : comparesNothing flashEntry = true := rfl
  have hidentify : comparesNothing identifyPhase = true := rfl
  have hphase : ∀ o, comparesNothing [.enter o] = true := fun _ => rfl
  cases i with
  | mIdentify => cases h; rfl
  | mProbe opts =>
    cases h
    simp only [planProbe, comparesNothing_append, comparesNothing_refreshPhase, hentry, hidentify, hphase]
    rfl
  | mLoadSram data opts =>
    cases h
    simp only [planLoadSram, comparesNothing_append, comparesNothing_refreshPhase, hidentify,
      comparesNothing_map (f := fun d => runIt (.cBurstData d)) fun _ => rfl]
    rfl
  | mProgram offset gran data opts =>
    cases h
    have hnone := fWait_not_mem_of_firstWait hwait
    simp only [planProgram, subCommands_append, List.mem_append, not_or] at hnone
    obtain ⟨⟨⟨-, hpieces⟩, -⟩, -⟩ := hnone
    cases data with
    | cons b bs =>
      rw [subCommands_programLoop] at hpieces
      simp [pagePieces, pieces] at hpieces
    | nil =>
      have hunprotect : comparesNothing (if optUnprotect opts then [runIt .fWren, .sub .fUnprotect .unprotect] else []) = true := by
        split <;> rfl
      have herase : comparesNothing (programErase c offset ((granOf gran).getD .g4K) [] opts) = true := by
        unfold programErase
        split
        · rfl
        · split
          · rfl
          · exact hrange _ _ _
      have hverify : comparesNothing (if optNoVerify opts then [] else verifyLoop c offset []) = true := by split <;> rfl
      simp only [planProgram, comparesNothing_append, comparesNothing_refreshPhase, hentry, hidentify, hphase, hunprotect, herase,
        hverify]
      rfl
  | mRead offset len opts =>
    cases h
    have hloop : comparesNothing (readLoop c offset len.toNat) = true := by
      unfold readLoop
      split
      · rfl
      · rw [comparesNothing_append, Bool.and_eq_true]
        exact ⟨comparesNothing_map (f := fun n => .sub (.fContRead (BitVec.ofNat 32 n)) .append) fun _ => rfl, rfl⟩
    simp only [planRead, comparesNothing_append, comparesNothing_refreshPhase, hentry, hidentify, hphase, hloop]
    rfl
  | mErase offset len gran opts =>
    cases h
    simp only [planErase, comparesNothing_append, comparesNothing_refreshPhase, hentry, hidentify, hphase, hrange]
    rfl
  | mVerify offset data opts => cases h; exact absurd rfl hk
  | _ => cases h

/-- A macro that ran to its end answers OK, or VERIFY_MISMATCH where it compared (60_exceptions.md R340). -/
theorem macroResult_kind (k : MacroKind) (dev : Option DeviceInfo) {n : Notes} (h : k ≠ .verify → n.first = none) :
    ∃ kind d, macroResult k dev n = .ended kind d ∧ (kind = .ok ∨ (k = .verify ∧ kind = .verifyMismatch)) := by
  cases k with
  | verify => cases hfirst : n.first <;> simp [macroResult, hfirst]
  | program => exact ⟨.ok, _, by rw [macroResult, h nofun]; rfl, .inl rfl⟩
  | _ => exact ⟨_, _, rfl, .inl rfl⟩

/-! ## From the start of a macro -/

section
variable {s : State} {k : MacroKind} {i : Instr} {items : List PlanItem}

theorem drew_idcodeRead (s : State) : Drew (answersOf s.idcodeEvents) s s.idcodeRead := ⟨rfl, rfl⟩

theorem able_idcodeRead {n : Nat} (hs : s.Ready) (hc : s.cfg.Wf)
    (husable : s.identified.family ≠ .unknown ∨ s.cfg.unknownPolicy = .treatAsA) (hok : s.OkThrough (n + 4)) :
    Able .outside n s.idcodeRead where
  ready := hs
  wf := hc
  family := by rw [knownFamily_of_dev (u := s.idcodeRead) rfl husable]; rfl
  read := nofun
  burst := nofun
  supply := by
    refine hok.imp (fun ⟨htarget, hpoll⟩ => ⟨Option.isSome_map.trans htarget, hpoll⟩) fun hanswers j hj => ?_
    · rw [(drew_idcodeRead s).answerAt]
      have := answersOf_idcodeEvents s
      exact hanswers _ (by omega)

theorem exec_expansion (hs : s.Ready) (hi : i.WellFormed s.cfg) (hitems : i.expansion s.cfg = some (k, items)) :
    exec i s = commit (runMacro k items) s :=
  exec_macro_run hitems ((earlyRefusal_opened hs.1).trans ((operandRefusal_eq_none_iff s.cfg i).mpr hi))

/-- Where a macro's device is one it can work with, its expansion runs to its end or its first wait. -/
theorem reachesWait_expansion (hs : s.Ready) (hc : s.cfg.Wf) (hi : i.WellFormed s.cfg)
    (hitems : i.expansion s.cfg = some (k, items))
    (husable : s.identified.family ≠ .unknown ∨ s.cfg.unknownPolicy = .treatAsA) (hchunk : s.cfg.readChunk ≤ s.cfg.maxXferBytes)
    (hdebounce : 2 ≤ s.cfg.readyDebounce) (hok : s.OkThrough (6 * items.length)) : ReachesWait items {} s := by
  have hops := operands_expansion hc hchunk hi hitems
  have hfour := okFor_of_okThrough hitems hok
  obtain ⟨q, hlead⟩ := leads_expansion hitems
  obtain ⟨tail, rfl⟩ := expansion_starts hitems
  have hable : Able .outside (6 * (PlanItem.statusIfKnown :: tail).length) s.idcodeRead := by
    refine able_idcodeRead hs hc husable (hok.imp id fun hanswers j hj => hanswers j ?_)
    simp only [List.length_append, List.length_cons, List.length_nil] at *
    omega
  exact (hlead.afterIdcode.reachesWait _ _ hable (allSub_append.mp hops).2 hdebounce).append (runs_readIdcode hs hc hfour {})
    (by simp [firstWait, Function.comp_def]) rfl fun _ => rfl

/-- A macro that goes past its `READ_IDCODE` keeps the ports and has its device (42_identity_status.md R173). -/
theorem dev_expansion (hs : s.Ready) (hc : s.cfg.Wf) (hitems : i.expansion s.cfg = some (k, items)) (hok : s.OkFor 4) :
    (endState (runPlan k items {} s)).dev = some s.identified := by
  obtain ⟨tail, rfl⟩ := expansion_starts hitems
  rw [runs_readIdcode hs hc hok {} k]
  exact (runPlan_updates k _ _ _).dev_eq_some rfl

/-- The state in which a macro stops at its first configuration command (R282, R297). -/
theorem unknown_expansion (hs : s.Ready) (hc : s.cfg.Wf) (hitems : i.expansion s.cfg = some (k, items)) (hk : k ≠ .identify)
    (hunknown : s.identified.family = .unknown) (hpolicy : s.cfg.unknownPolicy = .refuse) (hok : s.OkFor 4) :
    ∃ o, (phases items).take 2 = [.identify, o] ∧
      runMacro k items s = .error (.raise .refused .unknownFamily) ((s.idcodeRead.enterPhase o).enterPhase .idle) := by
  obtain ⟨o, tail, rfl⟩ := expansion_enables hitems hk
  refine ⟨o, rfl, ?_⟩
  have hskip : statusWanted s.idcodeRead { fresh := some s.freshDevice } = false := by
    simpa using fun h => (statusWanted_iff rfl).mp h ⟨hpolicy, .inr hunknown⟩
  have hrun := ((runs_readIdcode hs hc hok {}).append (runs_status_skipped hskip)).append (runs_enter o _ s.idcodeRead)
  have hrefused : subCommand .cEnable (s.idcodeRead.enterPhase o) =
      .error (.raise .refused .unknownFamily) (s.idcodeRead.enterPhase o) := by
    have hready : (s.idcodeRead.enterPhase o).Ready := hs
    have hfamily : (s.idcodeRead.enterPhase o).familyRefusal = some .unknownFamily := if_pos ⟨hunknown, hpolicy⟩
    refine bind_trans (checks_of_pass (checkStop_none (earlyRefusal_opened hready.1) hready.2)) ?_
    exact bind_of_error (gated_cfgFamily.stops (by rw [hfamily]; rfl)) _
  have hplan := hrun k (.sub .cEnable .nothing :: tail)
  rw [runPlan_sub, bind_of_error hrefused] at hplan
  have hplan' : runPlan k ([.enter .identify, .sub .readIdcode .fresh] ++
      (.statusIfKnown :: .enter o :: .sub .cEnable .nothing :: tail)) {} s = _ := hplan
  simp only [runMacro, idleOnStop, hplan']

end

/-- Settles O51: an expansion leads through its phases in each of which every sub-command succeeds or waits; with the family
Unknown under `Refuse` the first configuration command is refused; and at a failed answer a built command stops. -/
theorem macrosReachTheirFirstWait : Obligations.MacrosReachTheirFirstWait := by
  refine ⟨fun i s k items hs hc htask hi hitems husable hchunk hdebounce hok => ?_,
    fun i s k items hs hc hi hitems hk hunknown hpolicy hok => ?_, fun s n hs hc htarget hok hfail => ⟨?_, ?_⟩⟩
  · have hreach := reachesWait_expansion hs hc hi hitems husable hchunk hdebounce hok
    have hdev := dev_expansion hs hc hitems (okFor_of_okThrough hitems hok)
    have hports := (runPlan_updates k items {} s).keepsPorts
    have hresults := (built_runPlan k items {}).results s
    have hexec := exec_expansion hs hi hitems
    unfold ReachesWait at hreach
    cases hwait : firstWait items with
    | none =>
      rw [hwait] at hreach
      obtain ⟨n', t, hruns, hready, hlog, hfirst⟩ := hreach
      have hend := hruns.toEnd k
      obtain ⟨kind, d, hresult, hkind⟩ := macroResult_kind k t.dev fun hk => hfirst (comparesNothing_expansion hitems hwait hk)
      rw [hresult] at hend
      rw [hend] at hdev hports hresults
      refine ⟨_, hexec.trans (commit_ended (idleOnStop_of_ok hend)), hready, hdev, hports.cfg, hports.inbox,
        hports.task.trans htask, rfl, ?_, ⟨kind, .none, d⟩, congrArg (· ++ _) hresults, rfl, hkind⟩
      show t.orchLog ++ [.done] ++ [.idle] = _
      rw [hlog, List.append_assoc _ [OrchState.done]]
      rfl
    | some w =>
      rw [hwait] at hreach
      obtain ⟨before, cmd, keep, rest⟩ := w
      obtain ⟨n', t, hruns, hready, hlog⟩ := hreach
      have hend := hruns k
      rw [hend] at hdev hports hresults
      exact ⟨_, hexec.trans (commit_waiting (idleOnStop_of_ok hend)), hready, hdev, hports.cfg, hports.inbox, hresults, hlog, n', rfl⟩
  · obtain ⟨o, hphases, hrun⟩ := unknown_expansion hs hc hitems hk hunknown hpolicy hok
    rw [exec_expansion hs hi hitems, commit_raised hrun, hphases]
    have hlog : s.orchLog ++ [.identify] ++ [o] ++ [.idle] = s.orchLog ++ [.identify, o] ++ [OrchState.idle] := by simp
    rw [← hlog]
    rfl
  · intro i k items htask hi hitems
    rw [exec_expansion hs hi hitems]
    exact idleOnStop_atFailure (built_runPlan k items {}) (safe_runPlan hc k items (planOk_expansion hitems) {}) rfl
      (fun e t h => runPlan_stopped k items {} s h) htask (runPlan_updates k items {} s).keepsPorts.task hs.2 htarget hok hfail
  · intro w e houter hplan
    obtain ⟨polls, cmd, outer⟩ := w
    cases houter
    have hround : Built [.frame, .counter] (waitRound cmd polls) := built_waitRound (by decide) (by decide) _ _
    refine idleOnStop_atFailure (s := { s with task := none }) ?_ ((safe_waitRound cmd polls).bind
      (safe_continueMacro (safe_runPlan hc e.kind e.rest hplan))) rfl (fun e' t h => ?_) rfl ?_ hs.2 htarget hok hfail
    · exact (hround.mono (by decide)).bind (built_continueMacro (built_runPlan e.kind e.rest))
    · exact continue_stopped (hround.orchLog (by decide) _) (fun n u => runPlan_stopped e.kind e.rest n u) h
    · exact ((waitRound_updates cmd polls).bind (continueMacro_updates e) _).keepsPorts.task

end Sys2Proof.Machine
end

section
/-! SUPPORT. The events of `M_LOAD_SRAM` (45_orchestrator.md R285), part after part, and the statement that the image is one
DR shift. -/

namespace Sys2Proof.Machine

section
variable {s t u : State} {n m : Nat}

/-- The state after some events, as far as the ports go. -/
structure Heard (evs : List Event) (s t : State) : Prop where
  trace : t.trace = s.trace ++ evs
  drew : Drew (answersOf evs) s t
  target : t.target.isSome = s.target.isSome

theorem heard_saw (s : State) (evs : List Event) (tap : TapState) (rd bo : Bool) : Heard evs s (s.saw evs tap rd bo) :=
  ⟨rfl, ⟨rfl, rfl⟩, Option.isSome_map⟩

/-- What a configuration command needs, with answers for n primitives. -/
structure Loading (n : Nat) (s : State) : Prop where
  ready : s.Ready
  wf : s.cfg.Wf
  family : s.knownFamily.isSome = true
  okFor : s.OkFor n

theorem Loading.mono (h : Loading n s) (hm : m ≤ n) : Loading m s := ⟨h.ready, h.wf, h.family, okFor_mono h.okFor hm⟩

/-- A part of an expansion runs, it adds some events, and there are answers for n more primitives. -/
structure Emits (items : List PlanItem) (evs : List Event) (n : Nat) (notes : Notes) (s : State) (notes' : Notes) (t : State) :
    Prop where
  runs : Runs items notes s notes' t
  trace : t.trace = s.trace ++ evs
  cfg : t.cfg = s.cfg
  loading : Loading n t

theorem Emits.append {a b : List PlanItem} {e e' : List Event} {notes notes' notes'' : Notes}
    (h : Emits a e n notes s notes' t) (h' : Emits b e' m notes' t notes'' u) :
    Emits (a ++ b) (e ++ e') m notes s notes'' u :=
  ⟨h.runs.append h'.runs, by rw [h'.trace, h.trace, List.append_assoc], h'.cfg.trans h.cfg, h'.loading⟩

theorem Loading.enter (h : Loading n s) (o : OrchState) (notes : Notes) :
    Emits [.enter o] [] n notes s notes (s.enterPhase o) :=
  ⟨runs_enter o notes s, (List.append_nil _).symm, rfl, ⟨h.ready, h.wf, h.family, okFor_congr h.okFor rfl rfl rfl⟩⟩

theorem loading_setResult (h : Loading n s) (r : Result) : Loading n (s.setResult r) :=
  ⟨h.ready, h.wf, h.family, okFor_congr h.okFor rfl rfl rfl⟩

/-- After a sub-command that takes at most six answers there are answers for the next. -/
theorem Loading.after {i : Instr} {f : Flow} {evs : List Event} (h : Loading (6 + n) s) (hrun : subCommand i s = .ok f t)
    (hheard : Heard evs s t) (hanswers : answersOf evs ≤ 6) : Loading n t ∧ t.cfg = s.cfg := by
  obtain ⟨hready, hcfg, -, hdev⟩ := subCommand_goesOn h.ready hrun
  refine ⟨⟨hready, hcfg ▸ h.wf, ?_, ?_⟩, hcfg⟩
  · obtain ⟨f, hf⟩ := Option.isSome_iff_exists.mp h.family
    rw [knownFamily_kept hcfg hdev hf]
    rfl
  · refine h.okFor.imp hheard.target.trans fun hok j hj => ?_
    rw [hheard.drew.answerAt]
    exact hok _ (by omega)

theorem Loading.emits {i : Instr} {d : ResultData} {evs : List Event} (h : Loading (6 + n) s)
    (hrun : subCommand i s = .ok (.ended .ok d) t) (hheard : Heard evs s t) (hanswers : answersOf evs ≤ 6) (keep : Keep)
    (notes : Notes) : Emits [.sub i keep] evs n notes s (keepData keep d notes) (t.setResult ⟨.ok, .none, d⟩) := by
  obtain ⟨hloading, hcfg⟩ := h.after hrun hheard hanswers
  exact ⟨runs_sub hrun keep notes, hheard.trace, hcfg, loading_setResult hloading _⟩

/-! ## The parts of the macro -/

/-- `READ_STATUS`, if it is issued. -/
theorem emits_status (h : Loading (6 + n) s) (notes : Notes) :
    ∃ evs notes' t, Emits [.statusIfKnown] evs n notes s notes' t := by
  cases hwanted : statusWanted s notes with
  | false => exact ⟨[], notes, s, runs_status_skipped hwanted, (List.append_nil _).symm, rfl, h.mono (by omega)⟩
  | true =>
    obtain ⟨f, hf⟩ := Option.isSome_iff_exists.mp h.family
    have hrun := cmdReadStatus_ok h.ready h.wf hf (okFor_mono h.okFor (by omega)) rfl rfl
    have hanswers := answersOf_registerEvents s (s.cfg.fam f).ir.status
    obtain ⟨hloading, hcfg⟩ := h.after (i := .readStatus) hrun ⟨rfl, ⟨rfl, rfl⟩, Option.isSome_map⟩
      (by rw [answersOf_shifted]; omega)
    exact ⟨_, _, _, runs_status_read hwanted hrun, rfl, hcfg, loading_setResult hloading _⟩

/-- A simple configuration command starts with the load of its instruction (44_config_sequencer.md R250). -/
theorem emits_simple (h : Loading (6 + n) s) {i : Instr} {name : IrName} (hi : simpleName i = some name) (notes : Notes) :
    ∃ evs t, Emits [runIt i] (goTos s.tap .shiftIr ++ evs) n notes s notes t := by
  obtain ⟨f, hf⟩ := Option.isSome_iff_exists.mp h.family
  have hrun := simpleCfg_ok h.ready h.wf hf (okFor_mono h.okFor (by omega)) name
  rw [← subCommand_of_simpleName hi] at hrun
  have hanswers := answersOf_simpleEvents s ((s.cfg.fam f).ir.get name) ((s.cfg.fam f).param.get name)
  have hemits := h.emits hrun ⟨rfl, ⟨rfl, rfl⟩, Option.isSome_map⟩
    (by simp only [answersOf_append, answersOf]; omega) .nothing notes
  have hload : ∀ code p more, ∃ evs, s.simpleEvents code p ++ more = goTos s.tap .shiftIr ++ evs := by
    intro code p more
    cases p <;>
      simp [State.simpleEvents, State.registerEvents, State.loaded, State.shifted]
  obtain ⟨evs, hevs⟩ := hload ((s.cfg.fam f).ir.get name) ((s.cfg.fam f).param.get name) [.settle s.cfg.settleCycles]
  rw [hevs] at hemits
  exact ⟨evs, _, hemits⟩

/-- The burst is open in CAPTURE_DR or in SHIFT_DR (R256, R257; 10_state.md R39). -/
def State.Bursting (s : State) : Prop := s.burstOpen = true ∧ (s.tap = .captureDr ∨ s.tap = .shiftDr)

/-- `C_BURST` ends with its move to CAPTURE_DR (R256). -/
theorem emits_cBurst (h : Loading (6 + n) s) (notes : Notes) :
    ∃ evs t, Emits [runIt .cBurst] (evs ++ [.goTo .captureDr]) n notes s notes t ∧ t.Bursting := by
  obtain ⟨f, hf⟩ := Option.isSome_iff_exists.mp h.family
  have hrun := cmdCBurst_ok h.ready h.wf hf (okFor_mono h.okFor (by omega))
  have hanswers := answersOf_loaded s [] s.tap (s.cfg.fam f).ir.burst
  refine ⟨_, _, h.emits (i := .cBurst) hrun ⟨rfl, ⟨rfl, rfl⟩, Option.isSome_map⟩ ?_ .nothing notes, rfl, .inl rfl⟩
  simp only [answersOf_append, answersOf] at hanswers ⊢
  omega

/-- An event of a held DR shift: the move into SHIFT_DR, or a shift that does not exit. -/
def HeldDr (e : Event) : Prop := e = .goTo .shiftDr ∨ ∃ tx rx, e = .shift .dr tx (8 * tx.length) false rx

theorem drBits_append (a b : List Event) : drBits (a ++ b) = drBits a ++ drBits b := List.flatMap_append

theorem drBits_goTos (src dst : TapState) : drBits (goTos src dst) = [] := by unfold goTos; split <;> rfl

theorem wireBits_append (a b : List Byte) : wireBits (a ++ b) = wireBits a ++ wireBits b := List.flatMap_append

theorem drBits_framed (s : State) (src : TapState) (frame : List Byte) :
    drBits (s.framed [] src frame false) = wireBits (revBuf frame) := by
  rw [State.framed, State.shifted, drBits_append, List.nil_append, drBits_goTos, List.nil_append]
  exact List.append_nil _

theorem heldDr_framed (s : State) (src : TapState) (frame : List Byte) : ∀ e ∈ s.framed [] src frame false, HeldDr e := by
  intro e he
  rw [State.framed, State.shifted, List.nil_append, List.mem_append, List.mem_singleton] at he
  rcases he with he | rfl
  · unfold goTos at he
    split at he
    · cases he
    · exact .inl (List.mem_singleton.mp he)
  · exact .inr ⟨_, _, rfl⟩

/-- The chunks of the image are held DR shifts, one after another (R257). -/
theorem emits_cBurstData {chunks : List (List Byte)} (notes : Notes) : ∀ {s : State}, Loading (6 * chunks.length + n) s →
    s.Bursting → (∀ d ∈ chunks, xferLenOk s.cfg d.length = true) →
    ∃ evs t, Emits (chunks.map fun d => runIt (.cBurstData d)) evs n notes s notes t ∧ t.Bursting ∧
      drBits evs = wireBits (revBuf chunks.flatten) ∧ ∀ e ∈ evs, HeldDr e := by
  induction chunks with
  | nil =>
    intro s h hburst _
    exact ⟨[], s, ⟨.nil notes s, (List.append_nil _).symm, rfl, h.mono (by omega)⟩, hburst, rfl, nofun⟩
  | cons d ds ih =>
    intro s h hburst hlens
    obtain ⟨hlen, hlens⟩ := List.forall_mem_cons.mp hlens
    replace h : Loading (6 + (6 * ds.length + n)) s := h.mono (by rw [List.length_cons]; omega)
    have hrun := cmdCBurstData_ok h.ready (okFor_mono h.okFor (by omega)) hburst.1 hlen
    have hanswers := answersOf_framed s [] s.tap d false
    have hemits := h.emits (i := .cBurstData d) hrun (heard_saw _ _ _ _ _) (by simp only [answersOf] at hanswers; omega) .nothing
      notes
    obtain ⟨evs, t, hrest, hopen, hbits, hheld⟩ := ih hemits.loading ⟨rfl, .inr rfl⟩ (hemits.cfg.symm ▸ hlens)
    refine ⟨_, t, hemits.append hrest, hopen, ?_, fun e he => ?_⟩
    · rw [drBits_append, drBits_framed, hbits, List.flatten_cons, revBuf_append, wireBits_append]
    · rcases List.mem_append.mp he with he | he
      · exact heldDr_framed _ _ _ e he
      · exact hheld e he

/-- The end of the burst: the next instruction's load leaves the DR (R256). -/
theorem emits_cDisable (h : Loading (6 + n) s) (hburst : s.Bursting) (notes : Notes) :
    ∃ evs t, Emits [runIt .cDisable] ([.goTo .shiftIr] ++ evs) n notes s notes t := by
  obtain ⟨evs, t, hemits⟩ := emits_simple h (i := .cDisable) rfl notes
  have hmove : goTos s.tap .shiftIr = [.goTo .shiftIr] := by rcases hburst.2 with h | h <;> rw [h] <;> rfl
  rw [hmove] at hemits
  exact ⟨evs, t, hemits⟩

theorem emits_refreshPhase (opts : Byte) (h : Loading (6 * (refreshPhase opts).length + n) s) (notes : Notes) :
    ∃ evs t, Emits (refreshPhase opts) evs n notes s notes t := by
  by_cases hopt : optRefresh opts = true
  · have hparts : refreshPhase opts = [.enter .refresh] ++ [runIt .cRefresh] := if_pos hopt
    rw [hparts] at h ⊢
    rw [List.length_append, List.length_singleton, List.length_singleton] at h
    have hphase := h.enter .refresh notes
    obtain ⟨evs, t, hemits⟩ := emits_simple (n := n) (hphase.loading.mono (by omega)) (i := .cRefresh) rfl notes
    exact ⟨_, t, hphase.append hemits⟩
  · have hparts : refreshPhase opts = [] := if_neg hopt
    rw [hparts] at h ⊢
    exact ⟨[], s, .nil notes s, (List.append_nil _).symm, rfl, h.mono (by omega)⟩

/-- The phase of `M_LOAD_SRAM` up to its burst (R285). -/
theorem emits_untilBurst (h : Loading (6 * 5 + n) s) (notes : Notes) :
    ∃ evs t, Emits [.enter .loadSram, runIt .cEnable, runIt .cErase, runIt .cResetCrc, runIt .cBurst]
      (evs ++ [.goTo .captureDr]) n notes s notes t ∧ t.Bursting := by
  have hphase := h.enter .loadSram notes
  obtain ⟨e₁, t₁, h₁⟩ := emits_simple (n := 18 + n) (hphase.loading.mono (by omega)) (i := .cEnable) rfl notes
  obtain ⟨e₂, t₂, h₂⟩ := emits_simple (n := 12 + n) (h₁.loading.mono (by omega)) (i := .cErase) rfl notes
  obtain ⟨e₃, t₃, h₃⟩ := emits_simple (n := 6 + n) (h₂.loading.mono (by omega)) (i := .cResetCrc) rfl notes
  obtain ⟨e₄, t₄, h₄, hburst⟩ := emits_cBurst (n := n) h₃.loading notes
  have hall := (((hphase.append h₁).append h₂).append h₃).append h₄
  rw [← List.append_assoc] at hall
  exact ⟨_, t₄, hall, hburst⟩

/-- Identify, for a device a macro can work with (R282). -/
theorem emits_identifyPhase (hs : s.Ready) (hc : s.cfg.Wf)
    (husable : s.identified.family ≠ .unknown ∨ s.cfg.unknownPolicy = .treatAsA) (hok : s.OkFor (4 + (6 + n))) :
    ∃ evs notes t, Emits identifyPhase evs n {} s notes t := by
  have hanswers := answersOf_idcodeEvents s
  have hidcode : Emits [.enter .identify, .sub .readIdcode .fresh] s.idcodeEvents (6 + n) {} s
      { fresh := some s.freshDevice } s.idcodeRead :=
    ⟨runs_readIdcode hs hc (okFor_mono hok (by omega)) {}, rfl, rfl,
      ⟨hs, hc, by rw [knownFamily_of_dev (u := s.idcodeRead) rfl husable]; rfl,
        okFor_saw (s := s.identifying) hok (by omega)⟩⟩
  obtain ⟨evs, notes, t, hstatus⟩ := emits_status hidcode.loading { fresh := some s.freshDevice }
  exact ⟨_, notes, t, hidcode.append hstatus⟩

end

/-- Settles O53: the events of the macro, part after part. -/
theorem sramImageIsOneShift : Obligations.SramImageIsOneShift := by
  intro s data opts hs hc hopts husable hok
  obtain ⟨hchunk, hlens⟩ : 0 < s.cfg.sramChunk ∧ ∀ d ∈ sramChunks s.cfg data, xferLenOk s.cfg d.length = true := by
    obtain ⟨⟨-, -, ⟨hsram, -⟩, -, -, -, -, -, -, -, -, -, -, -, -, hxfer, -⟩, -, -⟩ := hc
    refine ⟨hsram, fun d hd => ?_⟩
    obtain ⟨hone, hle⟩ := length_of_mem_chunks hsram _ _ _ hd
    simp only [xferLenOk, Bool.and_eq_true, decide_eq_true_eq]
    omega
  have hlength : (planLoadSram s.cfg data opts).length =
      3 + (5 + ((sramChunks s.cfg data).length + (1 + (refreshPhase opts).length))) := by
    simp only [planLoadSram, identifyPhase, List.length_append, List.length_map, List.length_cons, List.length_nil]
    omega
  obtain ⟨e₁, notes, s₁, hidentify⟩ := emits_identifyPhase (n := 6 * 5 + (6 * (sramChunks s.cfg data).length +
    (6 + (6 * (refreshPhase opts).length + 0)))) hs hc husable (okFor_mono hok (by omega))
  obtain ⟨e₂, s₂, hstart, hopen⟩ := emits_untilBurst hidentify.loading notes
  obtain ⟨burst, s₃, hburst, hopen', hbits, hheld⟩ := emits_cBurstData notes hstart.loading hopen
    (by rw [hstart.cfg, hidentify.cfg]; exact hlens)
  obtain ⟨e₄, s₄, hdisable⟩ := emits_cDisable hburst.loading hopen' notes
  obtain ⟨e₅, s₅, hrefresh⟩ := emits_refreshPhase opts hdisable.loading notes
  have hall : Emits (planLoadSram s.cfg data opts) _ 0 {} s notes s₅ :=
    (((hidentify.append hstart).append hburst).append hdisable).append hrefresh
  have hend := hall.runs.toEnd .loadSram
  have hresults := (built_runPlan .loadSram (planLoadSram s.cfg data opts) {}).results s
  rw [hend] at hresults
  have hexec : exec (.mLoadSram data opts) s = _ :=
    (exec_expansion (i := .mLoadSram data opts) hs hopts rfl).trans (commit_ended (idleOnStop_of_ok hend))
  refine ⟨_, e₁ ++ e₂, burst, e₄ ++ e₅, hexec, congrArg (· ++ _) hresults, ?_, ?_, hheld⟩
  · refine hall.trace.trans ?_
    simp only [List.append_assoc]
  · rw [hbits, sramChunks, flatten_chunks hchunk _ _ (Nat.le_refl _)]

end Sys2Proof.Machine
end

section
/-! SUPPORT. The reference target under the sub-commands of a macro (20_memory.md R84): what each leaves of the flash's bytes,
and what the flash answers to the reads (45_orchestrator.md R291, R292). -/

namespace Sys2Proof.Machine

/-! ## Outside passthrough -/

/-- The flash of a target is as before: its bytes and whether it is busy; and so is the device it belongs to. -/
structure SameFlash (t t' : Target) : Prop where
  mem : t'.mem = t.mem
  busy : t'.busyPolls = t.busyPolls
  family : t'.family = t.family
  idcode : t'.idcode = t.idcode

theorem SameFlash.trans {t t' t'' : Target} (h : SameFlash t t') (h' : SameFlash t' t'') : SameFlash t t'' :=
  ⟨h'.mem.trans h.mem, h'.busy.trans h.busy, h'.family.trans h.family, h'.idcode.trans h.idcode⟩

/-- Outside passthrough the end of a DR stay stores nothing (R84). -/
theorem sameFlash_leaveDr {c : Cfg} {t : Target} (h : t.mode = .config) : SameFlash t (t.leaveDr c) := by
  simp only [Target.leaveDr, h]
  split <;> exact ⟨rfl, rfl, rfl, rfl⟩

section
variable {s : State} {t : Target}

/-- An instruction is loaded: passthrough ends, and where no transaction is open the flash stays as it is (R84). -/
theorem replay_loaded (hout : s.tap ≠ .shiftDr ∨ t.mode = .config) (code : Byte) :
    ∃ t', t.replay s.cfg s.tap (s.loaded [] s.tap code) = t' ∧ SameFlash t t' ∧ t'.mode = .config ∧ t'.ir = code := by
  have hmove : ∃ t', t.replay s.cfg s.tap (goTos s.tap .shiftIr) = t' ∧ SameFlash t t' := by
    unfold goTos
    split
    · exact ⟨t, rfl, rfl, rfl, rfl, rfl⟩
    · refine ⟨_, rfl, ?_⟩
      show SameFlash t (if s.tap = .shiftDr then t.leaveDr s.cfg else t)
      split
      · exact sameFlash_leaveDr (hout.resolve_left (· ‹_›))
      · exact ⟨rfl, rfl, rfl, rfl⟩
  obtain ⟨t', hreplay, hsame⟩ := hmove
  refine ⟨{ t' with ir := code, mode := .config }, ?_, hsame.trans ⟨rfl, rfl, rfl, rfl⟩, rfl, rfl⟩
  rw [State.loaded, State.shifted, replay_append, List.nil_append, hreplay]
  rfl

/-- A data register is shifted after that. -/
theorem replay_register (hout : s.tap ≠ .shiftDr ∨ t.mode = .config) (code : Byte) (tx : List Byte) :
    ∃ t', t.replay s.cfg s.tap (s.shifted (s.registerEvents code) .dr tx true) = t'.leaveDr s.cfg ∧ SameFlash t t' ∧
      t'.mode = .config ∧ t'.ir = code ∧ t'.frame = tx := by
  obtain ⟨t', hreplay, hsame, hmode, hir⟩ := replay_loaded hout code
  refine ⟨{ t' with frame := tx }, ?_, hsame.trans ⟨rfl, rfl, rfl, rfl⟩, hmode, hir, rfl⟩
  rw [State.shifted, State.registerEvents, replay_append, replay_append, hreplay, tapAfter_loaded]
  simp [Target.replay, Target.onGoTo, exitState_ne_shiftDr, Target.onShift]

/-- Moves that do not leave SHIFT_DR, and settles, leave the target as it is. -/
theorem replay_toIdle {c : Cfg} {src : TapState} (hsrc : src ≠ .shiftDr) (t : Target) (n : List Event)
    (hn : n = [] ∨ ∃ cycles, n = [.settle cycles]) : t.replay c src (goTos src .runTestIdle ++ n) = t := by
  unfold goTos
  rcases hn with rfl | ⟨cycles, rfl⟩ <;> split <;> simp [Target.replay, Target.onGoTo, hsrc]

theorem sameFlash_register (hout : s.tap ≠ .shiftDr ∨ t.mode = .config) (code : Byte) (tx : List Byte) :
    SameFlash t (t.replay s.cfg s.tap (s.shifted (s.registerEvents code) .dr tx true)) := by
  obtain ⟨t', hreplay, hsame, hmode, -⟩ := replay_register hout code tx
  rw [hreplay]
  exact hsame.trans (sameFlash_leaveDr hmode)

theorem sameFlash_simple (hout : s.tap ≠ .shiftDr ∨ t.mode = .config) (code : Byte) (p : Option Byte) (cycles : Nat) :
    SameFlash t (t.replay s.cfg s.tap (s.simpleEvents code p ++ [.settle cycles])) := by
  cases p with
  | none =>
    obtain ⟨t', hreplay, hsame, -⟩ := replay_loaded hout code
    rw [State.simpleEvents, List.append_assoc, replay_append, hreplay, tapAfter_loaded,
      replay_toIdle (exitState_ne_shiftDr _ _) _ _ (.inr ⟨cycles, rfl⟩)]
    exact hsame
  | some b =>
    rw [State.simpleEvents, List.append_assoc, replay_append, tapAfter_registerShift,
      replay_toIdle (exitState_ne_shiftDr _ _) _ _ (.inr ⟨cycles, rfl⟩)]
    exact sameFlash_register hout code [b]

/-- The unlock sequence of the target's own family enters passthrough (44_config_sequencer.md R258; R84). -/
theorem replay_passthrough (hout : s.tap ≠ .shiftDr ∨ t.mode = .config) :
    ∃ t', t.replay s.cfg s.tap (s.shifted (s.registerEvents (s.cfg.fam t.family).ir.passthrough) .dr (s.cfg.fam t.family).unlock
        true ++ goTos (exitState s.cfg .dr) .runTestIdle) = t' ∧ SameFlash t t' ∧ t'.mode = .passthrough := by
  obtain ⟨t', hreplay, hsame, hmode, hir, hframe⟩ := replay_register hout (s.cfg.fam t.family).ir.passthrough
    (s.cfg.fam t.family).unlock
  have hidle := replay_toIdle (c := s.cfg) (exitState_ne_shiftDr s.cfg .dr) (t'.leaveDr s.cfg) [] (.inl rfl)
  rw [List.append_nil] at hidle
  refine ⟨{ t' with mode := .passthrough, frame := [] }, ?_, hsame.trans ⟨rfl, rfl, rfl, rfl⟩, rfl⟩
  rw [replay_append, hreplay, tapAfter_registerShift, hidle, Target.leaveDr, hmode]
  simp only [hir, hframe, hsame.family, and_self, if_true]

end

/-! ## In passthrough -/

/-- A first byte that is no opcode of the table does nothing (R84). -/
theorem flashEffect_of_unlisted {c : Cfg} {t : Target} {op : Byte} (hbusy : t.busyPolls = 0) (h : flashNameOf c op = none)
    (args : List Byte) : t.flashEffect c op args = t := by
  have hne : ∀ n : FlashName, op ≠ c.flashOps.get n := fun n hop => by
    have hnone := List.find?_eq_none.mp h n (by cases n <;> decide)
    exact hnone (by rw [hop]; exact beq_self_eq_true _)
  unfold Target.flashEffect
  rw [if_neg (by omega)]
  exact (if_neg (hne .wren)).trans ((if_neg (hne .wrdi)).trans ((if_neg (hne .wrsr1)).trans ((if_neg (hne .ce)).trans
    ((if_neg (hne .se4k)).trans ((if_neg (hne .be32k)).trans ((if_neg (hne .be64k)).trans (if_neg (hne .pp))))))))

theorem leaveDr_unlisted {c : Cfg} {t : Target} {op : Byte} {args : List Byte} (hmode : t.mode = .passthrough)
    (hbusy : t.busyPolls = 0) (hframe : t.frame = revBuf (op :: args)) (h : flashNameOf c op = none) :
    t.leaveDr c = { t with frame := [] } := by
  unfold Target.leaveDr
  rw [hmode, hframe, revBuf_revBuf]
  simp only [flashEffect_of_unlisted hbusy h, hmode]

/-- The reset frame does nothing where its first byte is no opcode (30_encoding.md R113; R84). -/
theorem replay_reset {s : State} {t : Target} (hreset : ResetIsNoOpcode s.cfg) (hout : s.tap ≠ .shiftDr)
    (hmode : t.mode = .passthrough) (hbusy : t.busyPolls = 0) :
    t.replay s.cfg s.tap (s.framed [] s.tap s.cfg.flashResetFrame true) = { t with frame := [] } := by
  rw [replay_framed (e := []) (src := s.tap) rfl, if_neg hout]
  have hframe : ∀ frame, (frame.head?.all fun b => (flashNameOf s.cfg b).isNone) = true →
      ({ t with frame := revBuf frame } : Target).leaveDr s.cfg = { t with frame := [] } := by
    intro frame hhead
    cases frame with
    | nil => simp [Target.leaveDr, hmode]
    | cons op args =>
      exact leaveDr_unlisted (t := { t with frame := revBuf (op :: args) }) hmode hbusy rfl (by simpa using hhead)
  simpa [Target.replay, Target.onGoTo, Target.onShift, hout] using hframe _ hreset

/-! ## What a sub-command does to the flash, and what it reads -/

/-- The flash's bytes from an address on, past the top from address 0 (20_memory.md R77). -/
def flashBytes (m : Memory) (a n : Nat) : List Byte := (List.range n).map fun j => m.read ((a + j) % flashSpace)

/-- What a sub-command that finds the flash ready makes of its bytes (20_memory.md R79, R80; R84). -/
def memAfter (c : Cfg) (m : Memory) : Instr → Memory
  | .fCe => []
  | .fSe4k a => m.erase (roundDown a.toNat c.erase4K) (roundDown a.toNat c.erase4K + c.erase4K)
  | .fBe32k a => m.erase (roundDown a.toNat c.erase32K) (roundDown a.toNat c.erase32K + c.erase32K)
  | .fBe64k a => m.erase (roundDown a.toNat c.erase64K) (roundDown a.toNat c.erase64K + c.erase64K)
  | .fPp a data => m.program (roundDown a.toNat 256) a.toNat data
  | _ => m

/-- Where the read is after a sub-command (43_flash_commands.md R216, R217). -/
def posAfter (pos : Nat) : Instr → Nat
  | .fRead a => a.toNat
  | .fContRead n => pos + n.toNat
  | _ => pos

/-- The target in a phase of a macro. -/
def Phase.OnFlash (p : Phase) (s : State) (t : Target) (pos : Nat) : Prop :=
  match p with
  | .outside => t.busyPolls = 0 ∧ s.tap ≠ .shiftDr
  | .burst => t.busyPolls = 0 ∧ t.mode = .config
  | .ready | .enabled => t.busyPolls = 0 ∧ t.mode = .passthrough
  | .pending => t.mode = .passthrough
  | .reading => t.busyPolls = 0 ∧ t.mode = .passthrough ∧ s.tap = .shiftDr ∧
      ∃ a done, t.frame = readFrame s.cfg a done ∧ pos = a.toNat + done

section
variable {s : State} {t : Target} {p q : Phase} {pos : Nat}

theorem target_saw {evs : List Event} {t' : Target} (ht : s.target = some t) (h : t.replay s.cfg s.tap evs = t') :
    (s.target.map fun t => t.replay s.cfg s.tap evs) = some t' := by
  rw [ht, Option.map_some, h]

theorem memAfter_of_simpleName {i : Instr} {n : IrName} (h : simpleName i = some n) (c : Cfg) (m : Memory) :
    memAfter c m i = m := by cases i <;> first | rfl | cases h

theorem memAfter_eraseCmd (c : Cfg) (m : Memory) (g : Gran) (a : Addr) :
    memAfter c m (eraseCmd g a) =
      m.erase (roundDown a.toNat (c.eraseSize g)) (roundDown a.toNat (c.eraseSize g) + c.eraseSize g) := by cases g <;> rfl

/-- An erase frame on an enabled flash (R84). -/
theorem eraseBlock_enabled (t : Target) (size : Nat) (a : Addr) : t.enabled.eraseBlock size (be24 a) =
    { t.enabled.clearWel with
      mem := t.mem.erase (roundDown a.toNat size) (roundDown a.toNat size + size)
      busyPolls := t.be } := by
  have haddr : frameAddr (be24 a) = some a.toNat := frameAddr_be24 a []
  simp only [Target.eraseBlock, haddr, wel_enabled, if_true]
  rfl

theorem flashBytes_eq {m : Memory} {a n : Nat} {bs : List Byte} (hlen : bs.length = n)
    (h : ∀ j < n, bs[j]? = some (m.read ((a + j) % flashSpace))) : bs = flashBytes m a n := by
  refine List.ext_getElem? fun j => ?_
  by_cases hj : j < n
  · simp [h j hj, flashBytes, hj]
  · rw [List.getElem?_eq_none (by omega), List.getElem?_eq_none (by simp [flashBytes]; omega)]

/-- A block erase or a chip erase on a ready flash (43_flash_commands.md R209 to R213). -/
theorem eraseFrames_onFlash (hready : s.Ready) (hc : s.cfg.WfCodes) (hat : Phase.ready.At s) (ht : s.target = some t)
    (hflash : Phase.ready.OnFlash s t pos) (n : FlashName) (args : List Byte) :
    ∃ u, eraseFrames n args s = .ok (.ended .ok .none) u ∧
      u.target = some { t.enabled.readyEffect s.cfg args n with frame := [] } := by
  obtain ⟨hbusy, hmode⟩ := hflash
  have henable : t.replay s.cfg s.tap s.enableEvents = t.enabled :=
    replay_exchanged hc (e := []) rfl hat.2.2 rfl hmode hbusy .wren []
  have hreplay := replay_exchanged hc (tapAfter_enableEvents s).symm (exitState_ne_shiftDr s.cfg .dr) henable hmode hbusy n args
  refine ⟨_, eraseFrames_ok hready (clean_of_ready hat .plain).symm (okFor_of_target ht 4) n args, ?_⟩
  rw [State.saw_target]
  simpa using target_saw ht hreplay

/-- What a sub-command that does not wait makes of the target. -/
theorem Turn.onFlash {i : Instr} (h : Turn p i q) (hwait : i ≠ .fWait) (hunprotect : i ≠ .fUnprotect) (hs : Able p 6 s)
    (hat : p.At s) (hop : i.operandRefusal s.cfg = none) (hreset : ResetIsNoOpcode s.cfg) (ht : s.target = some t)
    (hfamily : s.knownFamily = some t.family) (hflash : p.OnFlash s t pos) :
    ∃ d u t', subCommand i s = .ok (.ended .ok d) u ∧ u.target = some t' ∧ t'.family = t.family ∧
      t'.mem = memAfter s.cfg t.mem i ∧ q.OnFlash u t' (posAfter pos i) ∧
      ∀ n, i = .fContRead n → d = .bytes (flashBytes t.mem pos n.toNat) := by
  have hready := hs.ready
  have hwf := hs.wf
  have hcodes := hwf.2.1
  have hok : ∀ m, s.OkFor m := okFor_of_target ht
  have hclean : Phase.ready.At s → ∀ k, s = s.flashHazards k := fun hat k => (clean_of_ready hat k).symm
  have hexit : exitState s.cfg .dr ≠ .shiftDr := exitState_ne_shiftDr s.cfg .dr
  -- A frame of one transaction with a flash that is ready.
  have hexchanged : Phase.ready.At s → Phase.ready.OnFlash s t pos → ∀ n operands,
      t.replay s.cfg s.tap (s.framed [] s.tap (s.cfg.flashOps.get n :: operands) true) =
        { t.readyEffect s.cfg operands n with frame := [] } := fun hat ⟨hbusy, hmode⟩ n operands =>
    replay_exchanged hcodes (e := []) rfl hat.2.2 rfl hmode hbusy n operands
  cases h with
  | readIdcode =>
    have hsame := sameFlash_register (t := t) (.inl hflash.2) s.cfg.irIdcode [0, 0, 0, 0]
    exact ⟨_, _, _, cmdReadIdcode_ok hready hwf (hok 4), target_saw ht rfl, hsame.family, hsame.mem,
      ⟨hsame.busy.trans hflash.1, hexit⟩, nofun⟩
  | readStatus =>
    have hsame := sameFlash_register (t := t) (.inl hflash.2) (s.cfg.fam t.family).ir.status
      (List.replicate ((s.cfg.fam t.family).statusBits / 8) 0)
    exact ⟨_, _, _, cmdReadStatus_ok hready hwf hfamily (hok 4) rfl rfl, target_saw ht rfl, hsame.family, hsame.mem,
      ⟨hsame.busy.trans hflash.1, hexit⟩, nofun⟩
  | simple n hi hp =>
    obtain ⟨hbusy, hout⟩ : t.busyPolls = 0 ∧ (s.tap ≠ .shiftDr ∨ t.mode = .config) := by
      rcases hp with rfl | rfl | rfl
      · exact ⟨hflash.1, .inl hflash.2⟩
      · exact ⟨hflash.1, .inr hflash.2⟩
      · exact ⟨hflash.1, .inl hat.2.2⟩
    have hsame := sameFlash_simple hout ((s.cfg.fam t.family).ir.get n) ((s.cfg.fam t.family).param.get n) s.cfg.settleCycles
    rw [subCommand_of_simpleName hi, memAfter_of_simpleName hi]
    exact ⟨_, _, _, simpleCfg_ok hready hwf hfamily (hok 6) n, target_saw ht rfl, hsame.family, hsame.mem,
      ⟨hsame.busy.trans hbusy, nofun⟩, fun n hn => by subst hn; cases hi⟩
  | cBurst =>
    obtain ⟨t', hreplay, hsame, hmode, -⟩ := replay_loaded (t := t) (.inl hflash.2) (s.cfg.fam t.family).ir.burst
    have hreplay' : t.replay s.cfg s.tap (s.loaded [] s.tap (s.cfg.fam t.family).ir.burst ++ [.goTo .captureDr]) = t' := by
      rw [replay_append, hreplay, tapAfter_loaded]
      simp [Target.replay, Target.onGoTo, exitState_ne_shiftDr]
    exact ⟨_, _, _, cmdCBurst_ok hready hwf hfamily (hok 3), target_saw ht hreplay', hsame.family, hsame.mem,
      ⟨hsame.busy.trans hflash.1, hmode⟩, nofun⟩
  | cBurstData data =>
    have hlen : xferLenOk s.cfg data.length = true := ite_none_eq_none_iff.mp hop
    have hreplay := replay_framed (s := s) (t := t) (e := []) (src := s.tap) rfl data false
    obtain ⟨t', hmove, hsame, hmode⟩ : ∃ t', (if s.tap = .shiftDr then t.replay s.cfg s.tap [] else
        (t.replay s.cfg s.tap []).onGoTo s.cfg s.tap .shiftDr) = t' ∧ SameFlash t t' ∧ t'.mode = .config := by
      refine ⟨_, rfl, ?_⟩
      split
      · exact ⟨⟨rfl, rfl, rfl, rfl⟩, hflash.2⟩
      · rename_i hout
        simp only [Target.onGoTo, hout, if_false, if_true, Target.replay]
        exact ⟨⟨rfl, rfl, rfl, rfl⟩, hflash.2⟩
    rw [hmove] at hreplay
    exact ⟨_, _, _, cmdCBurstData_ok hready (hok 3) (hs.burst rfl) hlen, target_saw ht hreplay, hsame.family, hsame.mem,
      ⟨hsame.busy.trans hflash.1, hmode⟩, nofun⟩
  | cPassthrough =>
    obtain ⟨t', hreplay, hsame, hmode⟩ := replay_passthrough (t := t) (.inl hflash.2)
    exact ⟨_, _, _, cmdCPassthrough_ok hready hwf hfamily (hok 5), target_saw ht hreplay, hsame.family, hsame.mem,
      ⟨hsame.busy.trans hflash.1, hmode⟩, nofun⟩
  | fReset =>
    have hframe : s.cfg.flashResetFrame ≠ [] := hwf.2.2.2.2.2.2.2
    exact ⟨_, _, _, cmdFReset_ok hready (hclean hat .plain) (hok 2) hframe,
      target_saw ht (replay_reset hreset hat.2.2 hflash.2 hflash.1), rfl, rfl, hflash, nofun⟩
  | fRdid =>
    exact ⟨_, _, _, cmdFRdid_ok hready (hclean hat .plain) (hok 2) rfl, target_saw ht (hexchanged hat hflash .rdid _), rfl, rfl,
      hflash, nofun⟩
  | fRdsr1 =>
    exact ⟨_, _, _, flashFrame_ok (k := .poll) hready (by decide) (hclean hat .poll) (hok 2) .rdsr1 (operands := [0x00]) rfl
      fun rx => .byte (registerByte rx), target_saw ht (hexchanged hat hflash .rdsr1 _), rfl, rfl, hflash, nofun⟩
  | fWren =>
    exact ⟨_, _, _, flashFrame_ok (k := .plain) hready (by decide) (hclean hat .plain) (hok 2) .wren (operands := []) rfl
      fun _ => .none, target_saw ht (hexchanged hat hflash .wren _), rfl, rfl, hflash, nofun⟩
  | fUnprotect => exact absurd rfl hunprotect
  | fCe =>
    obtain ⟨u, hrun, htarget⟩ := eraseFrames_onFlash hready hcodes hat ht hflash .ce []
    rw [Target.readyEffect, if_pos (wel_enabled t)] at htarget
    exact ⟨_, u, _, hrun, htarget, rfl, rfl, hflash.2, nofun⟩
  | erase g a =>
    obtain ⟨u, hrun, htarget⟩ := eraseFrames_onFlash hready hcodes hat ht hflash (blockErase g) (be24 a)
    rw [readyEffect_blockErase, eraseBlock_enabled] at htarget
    rw [memAfter_eraseCmd]
    have hcmd : subCommand (eraseCmd g a) = eraseFrames (blockErase g) (be24 a) := by cases g <;> rfl
    exact ⟨_, u, _, hcmd ▸ hrun, htarget, rfl, rfl, hflash.2, fun n hn => by cases g <;> cases hn⟩
  | fPp a data =>
    have hlen : pageLenOk s.cfg a data.length = true := ite_none_eq_none_iff.mp hop
    have henable : t.replay s.cfg s.tap s.enableEvents = t.enabled := hexchanged hat hflash .wren []
    have hheader := replay_opened (tapAfter_enableEvents s).symm hexit henable (s.cfg.flashOps.pp :: be24 a)
    have hreplay := replay_finished hcodes (n := .pp) (operands := be24 a) (tapAfter_held _ (tapAfter_enableEvents s).symm)
      hheader hflash.2 hflash.1 rfl data
    rw [readyEffect_frame, Target.readyEffect, frameAddr_be24] at hreplay
    simp only [wel_enabled, if_true] at hreplay
    exact ⟨_, _, _, cmdFPp_ok hready hlen (hclean hat .plain) (hok 5), target_saw ht hreplay, rfl, rfl, hflash.2, nofun⟩
  | fWait => exact absurd rfl hwait
  | fRead a =>
    have hreplay := replay_opened (s := s) (e := []) (src := s.tap) (t := t) rfl hat.2.2 rfl (s.cfg.flashOps.read :: be24 a)
    refine ⟨_, _, _, cmdFRead_ok a hready (hclean hat .plain) (hok 2), target_saw ht hreplay, rfl, rfl,
      ⟨hflash.1, hflash.2, rfl, a, 0, ?_, rfl⟩, nofun⟩
    rw [readFrame, List.replicate_zero, List.append_nil]
    rfl
  | fContRead n =>
    obtain ⟨hbusy, hmode, htap, a, done, hframe, rfl⟩ := hflash
    have hlen : xferLenOk s.cfg n.toNat = true := ite_none_eq_none_iff.mp hop
    have hmark : s = s.flashHazards .contRead := (flashHazards_clean hat.1 (.inl hat.2) (.inr rfl)).symm
    have hreplay := replay_continued (e := []) (s := s) (t := t) (t' := t) htap rfl (List.replicate n.toNat 0)
    rw [← htap] at hreplay
    refine ⟨_, _, _, cmdFContRead_ok hready (hs.read rfl) hlen hmark (hok 2), target_saw ht hreplay, rfl, rfl,
      ⟨hbusy, hmode, rfl, a, done + n.toNat, ?_, Nat.add_assoc _ _ _⟩, fun m hm => ?_⟩
    · exact (congrArg (· ++ _) hframe).trans (readFrame_append s.cfg a done n.toNat)
    · cases hm
      exact congrArg _ (flashBytes_eq (by simp [spiRx_held htap ht, length_received]) fun j hj =>
        spiRx_read hcodes htap ht hmode hbusy hframe hj)
  | spiEnd =>
    obtain ⟨hbusy, hmode, htap, a, done, hframe, rfl⟩ := hflash
    have hleave : t.leaveDr s.cfg = { t with frame := [] } :=
      leaveDr_transaction hcodes (n := .read) hmode hbusy hframe
    have hreplay : t.replay s.cfg s.tap (goTos s.tap .runTestIdle) = { t with frame := [] } := by
      rw [htap, ← hleave]
      rfl
    exact ⟨_, _, _, cmdSpiEnd_ok hready (hok 2), target_saw ht hreplay, rfl, rfl, ⟨hbusy, hmode⟩, nofun⟩

end

end Sys2Proof.Machine
end

section
/-! SUPPORT. An expansion on a reference target (20_memory.md R84, 45_orchestrator.md R280), over its waits to its end: what
it makes of the flash's bytes and what it reads of them. -/

namespace Sys2Proof.Machine

/-! ## What a macro has seen of the flash -/

/-- The flash's bytes, and what a macro makes of them: where its read is, what it collected, and the first address that
differed. -/
structure View where
  mem : Memory
  pos : Nat
  out : List Byte
  first : Option Addr

/-- What is collected and compared of a read (R291, R292). -/
def View.keeping (v : View) : Instr → Keep → View
  | .fContRead n, .append => { v with out := v.out ++ flashBytes v.mem v.pos n.toNat }
  | .fContRead n, .compare a expected => { v with first := v.first <|> firstDiff a (flashBytes v.mem v.pos n.toNat) expected }
  | _, _ => v

/-- What an item of an expansion makes of the view. -/
def View.after (c : Cfg) (v : View) : PlanItem → View
  | .sub i keep => { v.keeping i keep with mem := memAfter c v.mem i, pos := posAfter v.pos i }
  | _ => v

/-- The notes of a macro hold what the view does. -/
def View.Noted (v : View) (n : Notes) : Prop := n.out = v.out ∧ n.first = v.first

theorem View.Noted.keeping {v : View} {n : Notes} {i : Instr} {keep : Keep} {d : ResultData} (h : v.Noted n)
    (hkeep : keepsReads i keep = true) (hd : ∀ n, i = .fContRead n → d = .bytes (flashBytes v.mem v.pos n.toNat)) :
    (v.keeping i keep).Noted (keepData keep d n) := by
  obtain ⟨hout, hfirst⟩ := h
  cases keep with
  | append =>
    cases i with
    | fContRead m =>
      rw [hd m rfl]
      exact ⟨congrArg (· ++ _) hout, hfirst⟩
    | _ => cases hkeep
  | compare a expected =>
    cases i with
    | fContRead m =>
      rw [hd m rfl]
      exact ⟨hout, congrArg (· <|> _) hfirst⟩
    | _ => cases hkeep
  | _ =>
    have hview : ∀ k : Keep, (k = .nothing ∨ k = .fresh ∨ k = .status ∨ k = .jedec ∨ k = .sr1 ∨ k = .unprotect) →
        v.keeping i k = v := by
      rintro k (rfl | rfl | rfl | rfl | rfl | rfl) <;> cases i <;> rfl
    rw [hview _ (by simp)]
    cases d <;> exact ⟨hout, hfirst⟩

/-! ## On a reference target -/

/-- A macro's run on a reference target, between two sub-commands: it is hazard-free and in its phase, and the target holds
the bytes of the view. -/
structure Sees (c : Cfg) (rs : List Result) (w : Option Task) (p : Phase) (v : View) (s : State) : Prop where
  able : Able p 0 s
  phase : p.At s
  hazardFree : s.HazardFree
  cfg : s.cfg = c
  results : s.results = rs
  task : s.task = w
  target : ∃ t, s.target = some t ∧ t.mem = v.mem ∧ s.knownFamily = some t.family ∧ p.OnFlash s t v.pos

section
variable {c : Cfg} {rs : List Result} {w : Option Task} {p q : Phase} {v : View} {s : State}

theorem Sees.supplied (h : Sees c rs w p v s) (n : Nat) : Able p n s := by
  obtain ⟨t, ht, -⟩ := h.target
  exact { h.able with supply := .inl ⟨by rw [ht]; rfl, h.phase⟩ }

/-- The counter, the result and the phase of the orchestrator play no part. -/
theorem Sees.reached {u : State} (h : Sees c rs w p v s)
    (hu : u = { s with rdyCount := u.rdyCount, result := u.result, orch := u.orch, orchLog := u.orchLog }) : Sees c rs w p v u := by
  have hat : p.At s → p.At u := fun hat => by rw [hu]; cases p <;> exact hat
  obtain ⟨t, ht, hmem, hfamily, hflash⟩ := h.target
  rw [hu] at hat ⊢
  exact ⟨h.able.congr rfl rfl rfl rfl rfl rfl hat rfl rfl rfl, hat h.phase, h.hazardFree, h.cfg, h.results, h.task, t, ht, hmem,
    hfamily, by cases p <;> exact hflash⟩

theorem Sees.setResult (h : Sees c rs w p v s) (r : Result) : Sees c rs w p v (s.setResult r) := h.reached rfl

theorem Sees.enterPhase (h : Sees c rs w p v s) (o : OrchState) : Sees c rs w p v (s.enterPhase o) := h.reached rfl

/-- A flash that is ready may be polled. -/
theorem Sees.pending (h : Sees c rs w .ready v s) : Sees c rs w .pending v s := by
  obtain ⟨t, ht, hmem, hfamily, hflash⟩ := h.target
  have hat : Phase.pending.At s := ⟨h.phase.1, h.phase.2.2⟩
  exact ⟨⟨h.able.ready, h.able.wf, h.able.family, nofun, nofun, .inl ⟨by rw [ht]; rfl, hat⟩⟩, hat, h.hazardFree, h.cfg, h.results,
    h.task, t, ht, hmem, hfamily, hflash.2⟩

/-- A sub-command that does not wait. -/
theorem Turn.sees {i : Instr} (h : Turn p i q) (hwait : i ≠ .fWait) (hunprotect : i ≠ .fUnprotect) (hs : Sees c rs w p v s)
    (hop : i.operandRefusal c = none) (hreset : ResetIsNoOpcode c) (keep : Keep) :
    ∃ d t, subCommand i s = .ok (.ended .ok d) t ∧ Sees c rs w q (v.after c (.sub i keep)) t ∧
      ∀ n, i = .fContRead n → d = .bytes (flashBytes v.mem v.pos n.toNat) := by
  obtain ⟨t, ht, hmem, hfamily, hflash⟩ := hs.target
  obtain rfl := hs.cfg
  obtain ⟨d, u, hrun, hable, -, hcfg⟩ := h.able hwait hunprotect (hs.supplied (6 + 0)) hop
  obtain ⟨-, -, -, hdev⟩ := subCommand_goesOn hs.able.ready hrun
  obtain ⟨d', u', t', hrun', ht', hfamily', hmem', hflash', hd⟩ := h.onFlash hwait hunprotect (hs.supplied 6) hs.phase hop hreset
    ht hfamily hflash
  cases hrun.symm.trans hrun'
  have hafter := h.after hs.phase
  have hports := (subCommand_updates i s).keepsPorts
  rw [hrun] at hafter hports
  obtain ⟨hmarks, hat⟩ := hafter
  refine ⟨d, u, hrun, ⟨hable, hat, (Prod.mk.inj hmarks).1.trans hs.hazardFree, hcfg, hports.results.trans hs.results,
    hports.task.trans hs.task, t', ht', ?_, ?_, hflash'⟩, hmem ▸ hd⟩
  · rw [hmem', hmem]
    rfl
  · rw [hfamily']
    exact knownFamily_kept hcfg hdev hfamily

end

/-! ## Over the waits of an expansion -/

/-- A part of an expansion leads in so many later steps from some notes and a state to others, and the expansion goes on from
there. -/
def Gets (j : Nat) (items : List PlanItem) (n : Notes) (s : State) (n' : Notes) (s' : State) : Prop :=
  ∀ k rest m, untilIdle (j + m) (commit (idleOnStop (runPlan k (items ++ rest) n)) s) =
    untilIdle m (commit (idleOnStop (runPlan k rest n')) s')

theorem Gets.append {i j : Nat} {a b : List PlanItem} {n n' n'' : Notes} {s s' s'' : State} (h : Gets i a n s n' s')
    (h' : Gets j b n' s' n'' s'') : Gets (i + j) (a ++ b) n s n'' s'' := fun k rest m => by
  rw [List.append_assoc, Nat.add_assoc, h k (b ++ rest) (j + m), h' k rest m]

theorem commit_idleOnStop_congr {b b' : Bridge Flow} {s s' : State} (h : b s = b' s') :
    commit (idleOnStop b) s = commit (idleOnStop b') s' := commit_congr (by simp only [idleOnStop, h])

theorem Runs.gets {items : List PlanItem} {n n' : Notes} {s s' : State} (h : Runs items n s n' s') :
    Gets 0 items n s n' s' := fun k rest m => by
  rw [Nat.zero_add, commit_idleOnStop_congr (h k rest)]

/-! ## Waits -/

section
variable {c : Cfg} {rs : List Result} {v : View} {s : State} {t : Target}

/-- A wait of a macro between two polls on a reference target. -/
structure WaitsInside (c : Cfg) (rs : List Result) (v : View) (s : State) (t : Target) : Prop where
  sees : Sees c rs none .pending v s
  target : s.target = some t
  count : s.rdyCount < s.cfg.readyDebounce

theorem exchanged_poll_target {w : Option Task} (h : Sees c rs w .pending v s) (ht : s.target = some t) :
    (s.exchanged [s.cfg.flashOps.rdsr1, 0]).target = some t.afterPoll := by
  obtain ⟨t', ht', -, -, hmode⟩ := h.target
  cases ht.symm.trans ht'
  exact target_saw ht (replay_poll h.able.wf.2.1 hmode h.phase.2)

/-- After a poll the run is as before, and after the one that ends the wait no write is pending. -/
theorem Sees.polled (h : Sees c rs none .pending v s) (ht : s.target = some t) {q : Phase} {u : State}
    (hu : u = { s.exchanged [s.cfg.flashOps.rdsr1, 0] with rdyCount := u.rdyCount, mustPoll := u.mustPoll, trace := u.trace })
    (hq : q = .pending ∨ q = .ready ∧ u.mustPoll = false ∧ t.busyPolls = 0) : Sees c rs none q v u := by
  have htarget := exchanged_poll_target h ht
  obtain ⟨t', ht', hmem, hfamily, hmode⟩ := h.target
  cases ht.symm.trans ht'
  have hut : u.target = some t.afterPoll := by rw [hu]; exact htarget
  have hout : u.tap ≠ .shiftDr := by rw [hu]; exact exitState_ne_shiftDr s.cfg .dr
  have hpt : u.pt = true := by rw [hu]; exact h.phase.1
  have hat : q.At u := by
    rcases hq with rfl | ⟨rfl, hpoll, -⟩
    · exact ⟨hpt, hout⟩
    · exact ⟨hpt, hpoll, hout⟩
  have hknown : u.knownFamily = s.knownFamily := by rw [hu]; rfl
  refine ⟨⟨by rw [hu]; exact h.able.ready, by rw [hu]; exact h.able.wf, by rw [hknown]; exact h.able.family, ?_, ?_,
    .inl ⟨by rw [hut]; rfl, hat⟩⟩, hat, by rw [hu]; exact h.hazardFree, by rw [hu]; exact h.cfg, by rw [hu]; exact h.results,
    by rw [hu]; exact h.task, t.afterPoll, hut, hmem, hknown.trans hfamily, ?_⟩
  · rcases hq with rfl | ⟨rfl, -⟩ <;> exact nofun
  · rcases hq with rfl | ⟨rfl, -⟩ <;> exact nofun
  · rcases hq with rfl | ⟨rfl, -, hbusy⟩
    · exact hmode
    · exact ⟨by rw [Target.afterPoll, hbusy], hmode⟩

theorem clearTask {u : State} (h : u.task = none) : { u with task := none } = u :=
  congrArg (fun w => { u with task := w }) h.symm

/-- A poll that does not end the wait, and the step that goes on with it. -/
theorem WaitsInside.again (h : WaitsInside c rs v s t) (hbit : c.busyBit = 0) (hmore : pollsLeft s t ≠ 1) (cmd : WaitCmd)
    (polls : Nat) : ∃ u, WaitsInside c rs v u t.afterPoll ∧ pollsLeft u t.afterPoll + 1 = pollsLeft s t ∧
      ∀ e m, untilIdle (m + 1) (commit (idleOnStop (waitRound cmd polls >>= continueMacro e)) s) =
        untilIdle m (commit (idleOnStop (waitRound cmd (polls + 1) >>= continueMacro e)) u) := by
  obtain ⟨hsees, ht, hcount⟩ := h
  obtain rfl := hsees.cfg
  have hready := hsees.able.ready
  obtain ⟨t', ht', -, -, hmode⟩ := hsees.target
  cases ht.symm.trans ht'
  -- The wait by itself makes the same poll.
  have halone : WaitsOnFlash { s with task := some ⟨polls, .wait, none⟩ } t polls :=
    ⟨hready, hsees.able.wf.2.1, hbit, hsees.hazardFree, ht, hmode, hsees.phase.2, hcount, rfl⟩
  have hless : s.countAfterPoll [s.cfg.flashOps.rdsr1, 0] ≠ s.cfg.readyDebounce := by
    rw [countAfterPoll_onTarget hbit ht hmode hsees.phase.2]
    rw [pollsLeft] at hmore
    split at hmore <;> split <;> omega
  obtain ⟨w, hstep, hw, -, hleft⟩ := halone.step_again hmore
  cases (step_pollAgain (s := { s with task := some ⟨polls, .wait, none⟩ }) rfl hready rfl (okFor_of_target ht 2) hless).symm.trans
    hstep
  refine ⟨s.pollAgain [s.cfg.flashOps.rdsr1, 0], ⟨hsees.polled ht rfl (.inl rfl), hw.target, hw.count⟩, hleft, fun e m => ?_⟩
  have hround := waitRound_again (s := s) rfl hready.2 (okFor_of_target ht 2) hless cmd polls
  have hwaits : (waitRound cmd polls >>= continueMacro e) s =
      .ok (.waiting ⟨polls + 1, cmd, some e⟩) (s.pollAgain [s.cfg.flashOps.rdsr1, 0]) := bind_trans hround rfl
  rw [commit_waiting (idleOnStop_of_ok hwaits), untilIdle_of_task rfl, step_of_task rfl, resume]
  have hclear : { s.pollAgain [s.cfg.flashOps.rdsr1, 0] with task := none } = s.pollAgain [s.cfg.flashOps.rdsr1, 0] :=
    clearTask hsees.task
  exact congrArg (fun u => untilIdle m (commit (idleOnStop (waitRound cmd (polls + 1) >>= continueMacro e)) u)) hclear

/-- The poll that ends the wait, and the end of its command. -/
theorem WaitsInside.ends (h : WaitsInside c rs v s t) (hbit : c.busyBit = 0) (hlast : pollsLeft s t = 1) (cmd : WaitCmd)
    (polls : Nat) : ∃ d u, waitRound cmd polls s = .ok (.ended .ok d) u ∧ Sees c rs none .ready v u := by
  obtain ⟨hsees, ht, hcount⟩ := h
  obtain rfl := hsees.cfg
  have hready := hsees.able.ready
  obtain ⟨t', ht', -, -, hmode⟩ := hsees.target
  cases ht.symm.trans ht'
  obtain ⟨hbusy, hcount⟩ : t.busyPolls = 0 ∧ s.rdyCount + 1 = s.cfg.readyDebounce := by
    rw [pollsLeft] at hlast
    split at hlast <;> omega
  have hround := waitRound_ready (s := s) rfl hready.2 (okFor_of_target ht 2)
    ((countAfterPoll_onTarget hbit ht hmode hsees.phase.2).trans (by rw [if_pos hbusy]; exact hcount)) cmd polls
  have hover : Sees s.cfg rs none .ready v (s.pollReady [s.cfg.flashOps.rdsr1, 0]) := hsees.polled ht rfl (.inr ⟨rfl, rfl, hbusy⟩)
  cases cmd with
  | wait => exact ⟨_, _, hround, hover⟩
  | unprotect =>
    have hut : (s.pollReady [s.cfg.flashOps.rdsr1, 0]).target = some t.afterPoll := exchanged_poll_target hsees ht
    have hsend := sendPoll_ok (s := s.pollReady [s.cfg.flashOps.rdsr1, 0]) rfl hready.2 (okFor_of_target hut 2)
    exact ⟨_, _, hround.trans (bind_trans hsend rfl),
      hover.pending.polled hut rfl (.inr ⟨rfl, rfl, by rw [Target.afterPoll, hbusy]⟩)⟩

/-- A wait on a reference target ends, by induction on the polls it has left. -/
theorem WaitsInside.over (hbit : c.busyBit = 0) (cmd : WaitCmd) (n : Nat) : ∀ {s : State} {t : Target} (polls : Nat),
    WaitsInside c rs v s t → pollsLeft s t = n + 1 → ∃ j d u, Sees c rs none .ready v u ∧
      ∀ e m, untilIdle (j + m) (commit (idleOnStop (waitRound cmd polls >>= continueMacro e)) s) =
        untilIdle m (commit (idleOnStop (runPlan e.kind e.rest (keepData e.keep d e.notes))) (u.setResult (okResult d))) := by
  induction n with
  | zero =>
    intro s t polls h hleft
    obtain ⟨d, u, hrun, hsees⟩ := h.ends hbit hleft cmd polls
    refine ⟨0, d, u, hsees, fun e m => ?_⟩
    rw [Nat.zero_add, commit_idleOnStop_congr (bind_of_ok hrun (continueMacro e))]
    rfl
  | succ n ih =>
    intro s t polls h hleft
    obtain ⟨w, hw, hless, hstep⟩ := h.again hbit (by omega) cmd polls
    obtain ⟨j, d, u, hsees, hrun⟩ := ih (polls + 1) hw (by omega)
    exact ⟨j + 1, d, u, hsees, fun e m => by rw [Nat.add_right_comm, hstep e (j + m), hrun e m]⟩

/-- A command that comes to its first poll in an expansion. -/
theorem gets_wait {i : Instr} {cmd : WaitCmd} {u : State} (hbit : c.busyBit = 0) (hrun : subCommand i s = waitRound cmd 0 u)
    (hu : Sees c rs none .pending v u) (hcount : u.rdyCount = 0) (keep : Keep) (n : Notes) :
    ∃ j d u', Gets j [.sub i keep] n s (keepData keep d n) (u'.setResult (okResult d)) ∧ Sees c rs none .ready v u' := by
  obtain ⟨t, ht, -⟩ := hu.target
  have hpos := one_le_readyDebounce hu.able.wf
  have hleft : pollsLeft u t = t.busyPolls + (u.cfg.readyDebounce - 1) + 1 := by
    rw [pollsLeft]
    split <;> omega
  obtain ⟨j, d, u', hsees, hall⟩ := WaitsInside.over hbit cmd _ 0 ⟨hu, ht, by omega⟩ hleft
  refine ⟨j, d, u', fun k rest m => ?_, hsees⟩
  rw [← hall ⟨k, keep, rest, n⟩ m, List.singleton_append]
  refine congrArg (untilIdle (j + m)) (commit_idleOnStop_congr ?_)
  rw [runPlan_sub, bind_run, bind_run, hrun]

theorem gets_fWait (hbit : c.busyBit = 0) (hs : Sees c rs none .pending v s) (keep : Keep) (n : Notes) :
    ∃ j d u, Gets j [.sub .fWait keep] n s (keepData keep d n) (u.setResult (okResult d)) ∧ Sees c rs none .ready v u :=
  gets_wait (i := .fWait) hbit (cmdFWait_run hs.able.ready (flashHazards_clean hs.phase.1 (.inr rfl) (.inl hs.phase.2)).symm)
    (hs.reached (u := { s with rdyCount := 0 }) rfl) rfl keep n

/-- The write of status register 1 leaves the flash's bytes alone (R84). -/
theorem readyEffect_wrsr1 (c : Cfg) (t : Target) (w : Byte) : (t.readyEffect c [w] .wrsr1).mem = t.mem ∧
    (t.readyEffect c [w] .wrsr1).family = t.family ∧ (t.readyEffect c [w] .wrsr1).mode = t.mode := by
  simp only [Target.readyEffect]
  split <;> exact ⟨rfl, rfl, rfl⟩

/-- `F_UNPROTECT` writes the register and waits (43_flash_commands.md R220). -/
theorem gets_fUnprotect (hbit : c.busyBit = 0) (hs : Sees c rs none .enabled v s) (keep : Keep) (n : Notes) :
    ∃ j d u, Gets j [.sub .fUnprotect keep] n s (keepData keep d n) (u.setResult (okResult d)) ∧ Sees c rs none .ready v u := by
  obtain ⟨hpt, hpoll, hout, hwe⟩ := hs.phase
  obtain ⟨t, ht, hmem, hfamily, hbusy, hmode⟩ := hs.target
  have hclean : s = (s.flashHazards .plain).writeEnableHazard := by
    rw [clean_of_ready ⟨hpt, hpoll, hout⟩, writeEnableHazard_clean hwe]
  have hreplay := replay_exchanged hs.able.wf.2.1 (e := []) (s := s) (t := t) rfl hout rfl hmode hbusy .wrsr1 [0x00]
  refine gets_wait (i := .fUnprotect) hbit (cmdFUnprotect_run hs.able.ready hclean (okFor_of_target ht 2)) ?_ rfl keep n
  have hat : Phase.pending.At (s.unprotecting.saw (s.framed [] s.tap [s.cfg.flashOps.wrsr1, 0] true) (exitState s.cfg .dr) false
      false) := ⟨hpt, exitState_ne_shiftDr s.cfg .dr⟩
  have htarget := target_saw ht hreplay
  obtain ⟨hmem', hfamily', hmode'⟩ := readyEffect_wrsr1 s.cfg t 0x00
  exact ⟨⟨hs.able.ready, hs.able.wf, hs.able.family, nofun, nofun, .inl ⟨congrArg Option.isSome htarget, hat⟩⟩, hat, hs.hazardFree, hs.cfg, hs.results, hs.task, _, htarget, hmem'.trans hmem,
    hfamily.trans (congrArg some hfamily'.symm), hmode'.trans hmode⟩

/-! ## The expansion -/

/-- No sub-command waits. -/
def WaitFree (items : List PlanItem) : Prop := AllSub (fun i => i ≠ .fWait ∧ i ≠ .fUnprotect) items

/-- An expansion runs on a reference target to its end, and what it makes of the view is what its items do. -/
theorem Leads.sees {w : Option Task} {p q : Phase} {items : List PlanItem} (hreset : ResetIsNoOpcode c) (h : Leads p items q) :
    ∀ (v : View) (n : Notes) (s : State), Sees c rs w p v s → v.Noted n → AllSub (fun i => i.operandRefusal c = none) items →
    (c.busyBit = 0 ∧ w = none) ∨ WaitFree items →
    ∃ j n' s', Gets j items n s n' s' ∧ Sees c rs w q (items.foldl (View.after c) v) s' ∧
      (items.foldl (View.after c) v).Noted n' ∧ (WaitFree items → j = 0) := by
  induction h with
  | nil p => exact fun v n s hs hn _ _ => ⟨0, n, s, (Runs.nil n s).gets, hs, hn, fun _ => rfl⟩
  | enter o h ih =>
    intro v n s hs hn hops hbit
    obtain ⟨j, n', s', hgets, hrest⟩ := ih v n (s.enterPhase o) (hs.enterPhase o) hn hops hbit
    have hall := (runs_enter o n s).gets.append hgets
    rw [Nat.zero_add] at hall
    exact ⟨j, n', s', hall, hrest⟩
  | @sub p p' q rest i keep hi h hkeep ih =>
    intro v n s hs hn hops hbit
    obtain ⟨hop, hops⟩ := List.forall_mem_cons.mp hops
    have hfree : WaitFree (.sub i keep :: rest) ↔ (i ≠ .fWait ∧ i ≠ .fUnprotect) ∧ WaitFree rest := List.forall_mem_cons
    -- The sub-command, and then the rest.
    suffices hfirst : ∃ j n' s', Gets j [.sub i keep] n s n' s' ∧ Sees c rs w p' (v.after c (.sub i keep)) s' ∧
        (v.after c (.sub i keep)).Noted n' ∧ (i ≠ .fWait ∧ i ≠ .fUnprotect → j = 0) by
      obtain ⟨j, n', s', hgets, hsees, hnoted, hj⟩ := hfirst
      obtain ⟨j', n'', s'', hgets', hsees', hnoted', hj'⟩ := ih _ n' s' hsees hnoted hops (hbit.imp id fun h => (hfree.mp h).2)
      exact ⟨j + j', n'', s'', hgets.append hgets', hsees', hnoted', fun h => by
        rw [hj (hfree.mp h).1, hj' (hfree.mp h).2]⟩
    by_cases hwait : i = .fWait
    · subst hwait
      obtain ⟨rfl, rfl⟩ := hi.of_fWait rfl
      obtain ⟨hzero, rfl⟩ := hbit.resolve_right fun h => (hfree.mp h).1.1 rfl
      obtain ⟨j, d, u, hgets, hsees⟩ := gets_fWait hzero hs keep n
      exact ⟨j, _, _, hgets, hsees.setResult _, hn.keeping (i := .fWait) hkeep nofun, fun h => absurd rfl h.1⟩
    by_cases hunprotect : i = .fUnprotect
    · subst hunprotect
      obtain ⟨rfl, rfl⟩ := hi.of_fUnprotect rfl
      obtain ⟨hzero, rfl⟩ := hbit.resolve_right fun h => (hfree.mp h).1.2 rfl
      obtain ⟨j, d, u, hgets, hsees⟩ := gets_fUnprotect hzero hs keep n
      exact ⟨j, _, _, hgets, hsees.setResult _, hn.keeping (i := .fUnprotect) hkeep nofun, fun h => absurd rfl h.2⟩
    · obtain ⟨d, t, hrun, hsees, hd⟩ := hi.sees hwait hunprotect hs hop hreset keep
      exact ⟨0, _, _, (runs_sub hrun keep n).gets, hsees.setResult _, hn.keeping hkeep hd, fun _ => rfl⟩
  | @status q rest h ih =>
    intro v n s hs hn hops hbit
    obtain ⟨-, hops⟩ := List.forall_mem_cons.mp hops
    have hbit := hbit.imp id fun h => (List.forall_mem_cons.mp h).2
    obtain ⟨n₁, s₁, hruns, hsees, hnoted⟩ : ∃ n₁ s₁, Runs [.statusIfKnown] n s n₁ s₁ ∧ Sees c rs w .outside v s₁ ∧
        v.Noted n₁ := by
      cases hwanted : statusWanted s n with
      | false => exact ⟨n, s, runs_status_skipped hwanted, hs, hn⟩
      | true =>
        obtain ⟨d, t, hrun, hsees, -⟩ := Turn.readStatus.sees nofun nofun hs rfl hreset .status
        exact ⟨_, _, runs_status_read hwanted hrun, hsees.setResult _, hn.keeping (i := .readStatus) (keep := .status) rfl nofun⟩
    obtain ⟨j, n', s', hgets, hsees', hnoted', hj⟩ := ih v n₁ s₁ hsees hnoted hops hbit
    have hall := hruns.gets.append hgets
    rw [Nat.zero_add] at hall
    exact ⟨j, n', s', hall, hsees', hnoted', fun h => hj (List.forall_mem_cons.mp h).2⟩

end

end Sys2Proof.Machine
end

section
/-! SUPPORT. A macro on a reference target from its start to its answer (45_orchestrator.md R280 to R282; 20_memory.md R84),
and what its loops make of the flash's bytes: the reads (R291, R292), the erases (R288) and the programs (R290). -/

namespace Sys2Proof.Machine

/-! ## From the start to the answer -/

section
variable {s : State} {t : Target} {k : MacroKind} {i : Instr} {items : List PlanItem}

/-- `READ_IDCODE` finds the target's own word (42_identity_status.md R170; R84). -/
theorem freshDevice_onTarget (hc : s.cfg.Wf) (ht : s.target = some t) (hout : s.tap ≠ .shiftDr) :
    s.freshDevice = lookupId s.cfg t.idcode := by
  obtain ⟨-, -, -, hbits, -⟩ := hc
  obtain ⟨t', hreplay, hsame, hmode, hir⟩ := replay_loaded (t := t) (.inl hout) s.cfg.irIdcode
  have hmoved : t.replay s.cfg s.tap (s.loaded [] s.tap s.cfg.irIdcode ++ [.goTo .shiftDr]) = { t' with frame := [] } := by
    rw [replay_append, hreplay, tapAfter_loaded]
    simp [Target.replay, Target.onGoTo, exitState_ne_shiftDr]
  have hlen : (wordBytes s.cfg.wordAssembly t.idcode.toNat 4).length = 4 := by
    cases s.cfg.wordAssembly <;> rfl
  have hword : s.rxAt (s.loaded [] s.tap s.cfg.irIdcode ++ [.goTo .shiftDr]) .dr [0, 0, 0, 0] =
      wordBytes s.cfg.wordAssembly t.idcode.toNat 4 := by
    refine List.ext_getElem? fun j => ?_
    rw [State.rxAt, ht]
    simp only [hmoved, getElem?_received, List.length_nil, Nat.zero_add, Target.response, hmode, hir, if_true,
      hbits, hsame.idcode]
    by_cases hj : j < 4
    · obtain ⟨w, hw⟩ : ∃ w, (wordBytes s.cfg.wordAssembly t.idcode.toNat 4)[j]? = some w :=
        ⟨_, List.getElem?_eq_getElem (hlen.symm ▸ hj)⟩
      rw [hw, List.getElem?_eq_getElem (by rw [length_rxOf]; exact hj)]
      rfl
    · have hnone : (wordBytes s.cfg.wordAssembly t.idcode.toNat 4)[j]? = none :=
        List.getElem?_eq_none (hlen.symm ▸ Nat.le_of_not_lt hj)
      rw [hnone, List.getElem?_eq_none (by rw [length_rxOf]; exact Nat.le_of_not_lt hj)]
      rfl
  rw [State.freshDevice, hword, assemble_wordBytes, Nat.mod_eq_of_lt t.idcode.isLt, BitVec.ofNat_toNat, BitVec.setWidth_eq]

/-- After Identify's `READ_IDCODE`, on a target a macro can work on. -/
theorem sees_idcodeRead (hs : s.Ready) (hc : s.cfg.Wf) (hon : s.OnTarget t) (pos : Nat) (out : List Byte) (first : Option Addr) :
    Sees s.cfg s.results s.task .outside ⟨t.mem, pos, out, first⟩ s.idcodeRead := by
  obtain ⟨hfree, hpoll, ht, hbusy, hout, hfamily, hdev⟩ := hon
  rw [← freshDevice_onTarget hc ht hout] at hdev
  have hsame := sameFlash_register (t := t) (.inl hout) s.cfg.irIdcode [0, 0, 0, 0]
  have husable : s.identified.family ≠ .unknown := hdev ▸ hfamily
  have hknown : s.idcodeRead.knownFamily = some t.family := by
    rw [knownFamily_of_dev (u := s.idcodeRead) rfl (.inl husable), if_neg husable]
    exact congrArg some hdev
  refine ⟨able_idcodeRead hs hc (.inl husable) (.inl ⟨by rw [ht]; rfl, hpoll⟩), hpoll, hfree, rfl, rfl, rfl, _, target_saw ht rfl,
    hsame.mem, hknown.trans (congrArg some hsame.family.symm), hsame.busy.trans hbusy, exitState_ne_shiftDr s.cfg .dr⟩

/-- A macro on a reference target comes in so many later steps to its answer, and what it makes of the flash's bytes is what its
items do. -/
theorem exec_onTarget (hs : s.Ready) (hc : s.cfg.Wf) (hon : s.OnTarget t) (hreset : ResetIsNoOpcode s.cfg)
    (hi : i.WellFormed s.cfg) (hitems : i.expansion s.cfg = some (k, items))
    (hops : AllSub (fun i => i.operandRefusal s.cfg = none) items) (hbit : (s.cfg.busyBit = 0 ∧ s.task = none) ∨ WaitFree items)
    {v : View} (hv : items.foldl (View.after s.cfg) ⟨t.mem, 0, [], none⟩ = v) :
    ∃ j n kind d u, macroResult k u.dev n = .ended kind d ∧ v.Noted n ∧ u.HazardFree ∧ u.task = s.task ∧
      u.results = s.results ++ [⟨kind, .none, d⟩] ∧ (∀ x, u.flashAt x = some (v.mem.read x)) ∧
      (∀ m, untilIdle (j + m) (exec i s) = untilIdle m (.next u)) ∧ (WaitFree items → j = 0) := by
  obtain ⟨q, hlead⟩ := leads_expansion hitems
  obtain ⟨tail, rfl⟩ := expansion_starts hitems
  have htail : ∀ {P : Instr → Prop}, AllSub P ([.enter .identify, .sub .readIdcode .fresh] ++ .statusIfKnown :: tail) →
      AllSub P (.statusIfKnown :: tail) := fun h => (allSub_append.mp h).2
  obtain ⟨j, n, u, hgets, hsees, hnoted, hj⟩ := hlead.afterIdcode.sees hreset ⟨t.mem, 0, [], none⟩ { fresh := some s.freshDevice }
    s.idcodeRead (sees_idcodeRead hs hc hon _ _ _) ⟨rfl, rfl⟩ (htail hops) (hbit.imp id htail)
  have hview : (PlanItem.statusIfKnown :: tail).foldl (View.after s.cfg) ⟨t.mem, 0, [], none⟩ = v := by
    rw [← hv, List.foldl_append]
    rfl
  rw [hview] at hsees hnoted
  have hall := (runs_readIdcode hs hc (okFor_of_target hon.2.2.1 4) {}).gets.append hgets
  obtain ⟨kind, d, hresult⟩ := macroResult_ended k u.dev n
  obtain ⟨t', ht', hmem, -⟩ := hsees.target
  refine ⟨j, n, kind, d, ((u.enterPhase .done).enterPhase .idle).answer ⟨kind, .none, d⟩, hresult, hnoted, hsees.hazardFree, hsees.task,
    congrArg (· ++ _) hsees.results, fun x => ?_, fun m => ?_, fun hfree => hj (htail hfree)⟩
  · rw [State.flashAt, State.answer_target]
    simp [State.enterPhase, ht', hmem]
  · have hrun := hall k [] m
    rw [Nat.zero_add, List.append_nil] at hrun
    rw [exec_expansion hs hi hitems]
    refine hrun.trans (congrArg (untilIdle m) (commit_ended (idleOnStop_of_ok ?_)))
    exact (finishMacro_run k n u).trans (by rw [hresult])

end

/-! ## Parts that leave the view as it is -/

section
variable (c : Cfg) (v : View)

/-- What the flash macros begin with (R282). -/
theorem view_entry (o : OrchState) : (identifyPhase ++ [PlanItem.enter o] ++ flashEntry).foldl (View.after c) v = v := rfl

theorem view_refreshPhase (opts : Byte) : (refreshPhase opts).foldl (View.after c) v = v := by
  unfold refreshPhase
  split <;> rfl

/-- A flash macro with one loop makes of the view what its loop does (R292 to R294). -/
theorem view_flashMacro (o : OrchState) (loop : List PlanItem) (opts : Byte) :
    (identifyPhase ++ [PlanItem.enter o] ++ flashEntry ++ loop ++ refreshPhase opts).foldl (View.after c) v =
      loop.foldl (View.after c) v := by
  rw [List.foldl_append, List.foldl_append, view_entry, view_refreshPhase]

end

/-! ## Reads -/

theorem flashBytes_add (m : Memory) (a n k : Nat) : flashBytes m a (n + k) = flashBytes m a n ++ flashBytes m (a + n) k := by
  simp [flashBytes, List.range_add, Nat.add_assoc]

theorem length_flashBytes (m : Memory) (a n : Nat) : (flashBytes m a n).length = n := by simp [flashBytes]

theorem getElem?_flashBytes {m : Memory} {a n j : Nat} (hj : j < n) (hin : a + n ≤ flashSpace) :
    (flashBytes m a n)[j]? = some (m.read (a + j)) := by
  simp [flashBytes, hj, Nat.mod_eq_of_lt (show a + j < flashSpace by omega)]

/-- A held read collects the bytes one after another (R292). -/
theorem view_contReads (c : Cfg) (sizes : List Nat) : ∀ (v : View), (∀ n ∈ sizes, n < 2 ^ 32) →
    (sizes.map fun n => PlanItem.sub (.fContRead (BitVec.ofNat 32 n)) .append).foldl (View.after c) v =
      { v with pos := v.pos + sizes.sum, out := v.out ++ flashBytes v.mem v.pos sizes.sum } := by
  induction sizes with
  | nil => intro v _; simp [flashBytes]
  | cons n ns ih =>
    intro v hlt
    obtain ⟨hn, hns⟩ := List.forall_mem_cons.mp hlt
    have hnat : (BitVec.ofNat 32 n).toNat = n := by rw [BitVec.toNat_ofNat, Nat.mod_eq_of_lt hn]
    rw [List.map_cons, List.foldl_cons, ih _ hns]
    simp only [View.after, View.keeping, memAfter, posAfter, hnat, List.sum_cons, flashBytes_add, Nat.add_assoc, List.append_assoc]

theorem readSizes_sum {c : Cfg} (hread : 0 < c.readChunk) (len : Nat) : (readSizes c len).sum = len := by
  rw [readSizes, sizes_eq, ← List.length_flatten, flatten_chunks hread _ _ (by simp), List.length_replicate]

theorem lt_of_mem_readSizes {c : Cfg} (hread : 0 < c.readChunk) (len : Len) : ∀ n ∈ readSizes c len.toNat, n < 2 ^ 32 := by
  intro n hn
  have hle := List.le_sum_of_mem hn
  rw [readSizes_sum hread] at hle
  omega

/-- `M_READ`'s read collects the bytes of its range (R292). -/
theorem view_readLoop {c : Cfg} (hread : 0 < c.readChunk) (v : View) (offset : Addr) (len : Len) :
    ∃ pos, (readLoop c offset len.toNat).foldl (View.after c) v =
      { v with pos := pos, out := v.out ++ flashBytes v.mem offset.toNat len.toNat } := by
  unfold readLoop
  split
  next hzero => exact ⟨v.pos, by simp [hzero, flashBytes]⟩
  next =>
    have hreads := view_contReads c (readSizes c len.toNat) { v with pos := offset.toNat } (lt_of_mem_readSizes hread len)
    rw [readSizes_sum hread] at hreads
    refine ⟨offset.toNat + len.toNat, ?_⟩
    rw [List.foldl_append, List.foldl_cons]
    exact congrArg (fun w => [runIt .spiEnd].foldl (View.after c) w) hreads

/-- Where both have as many bytes, the comparison goes on after the first of them (R291). -/
theorem firstDiff_append (a : Nat) (e : List Byte) : ∀ (r e' r' : List Byte), r.length = e.length →
    firstDiff a (r ++ r') (e ++ e') = (firstDiff a r e <|> firstDiff (a + e.length) r' e') := by
  induction e generalizing a with
  | nil =>
    intro r e' r' hlen
    rw [List.length_eq_zero_iff.mp hlen]
    rfl
  | cons x e ih =>
    intro r e' r' hlen
    cases r with
    | nil => cases hlen
    | cons y r =>
      simp only [List.cons_append, firstDiff]
      split
      · rw [ih (a + 1) r e' r' (Nat.succ.inj hlen), List.length_cons, Nat.add_right_comm, Nat.add_assoc]
      · rfl

/-- A chunk of the verify loop. -/
theorem view_verifyChunk (c : Cfg) (v : View) {a : Nat} {d : List Byte} (ha : a < 2 ^ 24) (hd : d.length < 2 ^ 32) :
    [runIt (.fRead (BitVec.ofNat 24 a)), .sub (.fContRead (BitVec.ofNat 32 d.length)) (.compare a d), runIt .spiEnd].foldl
      (View.after c) v =
      { v with pos := a + d.length, first := v.first <|> firstDiff a (flashBytes v.mem a d.length) d } := by
  have haddr : (BitVec.ofNat 24 a).toNat = a := by rw [BitVec.toNat_ofNat, Nat.mod_eq_of_lt ha]
  have hlen : (BitVec.ofNat 32 d.length).toNat = d.length := by rw [BitVec.toNat_ofNat, Nat.mod_eq_of_lt hd]
  simp only [List.foldl_cons, List.foldl_nil, runIt, View.after, View.keeping, memAfter, posAfter, haddr, hlen]

/-- The verify loop compares the whole image with the bytes of its range (R291). -/
theorem view_verifyChunks (c : Cfg) {n : Nat} (hn : 0 < n) (k : Nat) : ∀ (a : Nat) (data : List Byte) (v : View),
    data.length ≤ k → a + data.length ≤ 2 ^ 24 →
    ∃ pos, ((addressed n k a data).flatMap fun p => [runIt (.fRead (BitVec.ofNat 24 p.1)),
        .sub (.fContRead (BitVec.ofNat 32 p.2.length)) (.compare p.1 p.2), runIt .spiEnd]).foldl (View.after c) v =
      { v with pos := pos, first := v.first <|> firstDiff a (flashBytes v.mem a data.length) data } := by
  induction k with
  | zero =>
    intro a data v hk _
    rw [List.length_eq_zero_iff.mp (Nat.le_zero.mp hk)]
    exact ⟨v.pos, by simp [addressed, flashBytes, firstDiff]⟩
  | succ k ih =>
    intro a data v hk hin
    cases data with
    | nil => exact ⟨v.pos, by simp [addressed, flashBytes, firstDiff]⟩
    | cons b bs =>
      obtain ⟨d, hd⟩ : ∃ d, d = (b :: bs).take n := ⟨_, rfl⟩
      obtain ⟨rest, hrest⟩ : ∃ rest, rest = (b :: bs).drop n := ⟨_, rfl⟩
      have hsplit : b :: bs = d ++ rest := by rw [hd, hrest, List.take_append_drop]
      have hdlen : d.length = min n (b :: bs).length := by rw [hd, List.length_take]
      have hlen : (b :: bs).length = d.length + rest.length := by rw [hsplit, List.length_append]
      have hpos : 1 ≤ (b :: bs).length := Nat.succ_pos _
      have hstep : addressed n (k + 1) a (b :: bs) = (a, d) :: addressed n k (a + d.length) rest := by rw [hdlen, hd, hrest]; rfl
      obtain ⟨pos, hloop⟩ := ih (a + d.length) rest
        { v with pos := a + d.length, first := v.first <|> firstDiff a (flashBytes v.mem a d.length) d } (by omega) (by omega)
      refine ⟨pos, ?_⟩
      rw [hstep, List.flatMap_cons, List.foldl_append, view_verifyChunk c v (a := a) (d := d) (by omega) (by omega), hloop]
      rw [hlen, flashBytes_add, hsplit, firstDiff_append a d _ _ _ (length_flashBytes _ _ _)]
      cases v.first <;> rfl

theorem view_verifyLoop {c : Cfg} (hread : 0 < c.readChunk) (v : View) {offset : Addr} {data : List Byte}
    (hrange : rangeOk offset data.length = true) : ∃ pos, (verifyLoop c offset data).foldl (View.after c) v =
      { v with pos := pos, first := v.first <|> firstDiff offset.toNat (flashBytes v.mem offset.toNat data.length) data } :=
  view_verifyChunks c hread _ _ _ v (Nat.le_refl _) (of_decide_eq_true hrange)

/-- The comparison finds nothing where the bytes are those of the image, and else the address of the first that differs. -/
theorem firstDiff_flashBytes (m : Memory) (data : List Byte) : ∀ a, a + data.length ≤ 2 ^ 24 →
    ((∀ j < data.length, some (m.read (a + j)) = data[j]?) → firstDiff a (flashBytes m a data.length) data = none) ∧
      ∀ j < data.length, (∀ i < j, some (m.read (a + i)) = data[i]?) → some (m.read (a + j)) ≠ data[j]? →
        firstDiff a (flashBytes m a data.length) data = some (BitVec.ofNat 24 (a + j)) := by
  induction data with
  | nil => exact fun a _ => ⟨fun _ => rfl, nofun⟩
  | cons d ds ih =>
    intro a hin
    rw [List.length_cons] at hin
    obtain ⟨hsame, hdiff⟩ := ih (a + 1) (by omega)
    have hhead : flashBytes m a (ds.length + 1) = m.read a :: flashBytes m (a + 1) ds.length := by
      rw [Nat.add_comm, flashBytes_add]
      simp [flashBytes, Nat.mod_eq_of_lt (show a < flashSpace by simp only [flashSpace]; omega)]
    rw [List.length_cons, hhead]
    simp only [firstDiff]
    refine ⟨fun h => ?_, fun j hj hbefore hat => ?_⟩
    · have hzero : m.read a = d := Option.some.inj (h 0 (Nat.succ_pos _))
      rw [if_pos hzero]
      exact hsame fun j hj => by have := h (j + 1) (by omega); rwa [← Nat.add_assoc, Nat.add_right_comm] at this
    · cases j with
      | zero =>
        have hzero : m.read a ≠ d := fun h => hat (congrArg some h)
        rw [if_neg hzero]
        rfl
      | succ j =>
        have hzero : m.read a = d := Option.some.inj (hbefore 0 (Nat.succ_pos _))
        rw [if_pos hzero, Nat.add_comm j, ← Nat.add_assoc]
        refine hdiff j (by omega) (fun i hi => ?_) ?_
        · have := hbefore (i + 1) (by omega)
          rwa [← Nat.add_assoc, Nat.add_right_comm] at this
        · rwa [← Nat.add_assoc, Nat.add_right_comm] at hat

end Sys2Proof.Machine
end

section
/-! SUPPORT. The statement on `M_READ` and `M_VERIFY` on a reference target (45_orchestrator.md R291, R292, R294, R296). -/

namespace Sys2Proof.Machine

/-! ## Macros that do not wait -/

theorem waitFree_append {a b : List PlanItem} : WaitFree (a ++ b) ↔ WaitFree a ∧ WaitFree b := allSub_append

theorem waitFree_refreshPhase (opts : Byte) : WaitFree (refreshPhase opts) :=
  allSub_ite (by simp [AllSub, subCommands, runIt]) allSub_nil

theorem waitFree_readLoop (c : Cfg) (offset : Addr) (len : Nat) : WaitFree (readLoop c offset len) :=
  allSub_ite allSub_nil (allSub_append.mpr ⟨
    allSub_sub ⟨nofun, nofun⟩ (allSub_map fun _ _ => allSub_sub ⟨nofun, nofun⟩ allSub_nil),
    allSub_sub ⟨nofun, nofun⟩ allSub_nil⟩)

theorem waitFree_verifyLoop (c : Cfg) (offset : Addr) (data : List Byte) : WaitFree (verifyLoop c offset data) :=
  allSub_flatMap fun _ _ => allSub_sub ⟨nofun, nofun⟩ (allSub_sub ⟨nofun, nofun⟩ (allSub_sub ⟨nofun, nofun⟩ allSub_nil))

/-- What the flash macros begin with does not wait (R282). -/
theorem waitFree_entry (o : OrchState) : WaitFree (identifyPhase ++ [.enter o] ++ flashEntry) := by
  simp [WaitFree, AllSub, subCommands, identifyPhase, flashEntry, runIt]

theorem readChunk_pos {c : Cfg} (hc : c.Wf) : 0 < c.readChunk := by
  obtain ⟨⟨-, ⟨hpos, -⟩, -⟩, -⟩ := hc
  exact hpos

/-- A macro that does not wait is over in its own step. -/
theorem exec_eq_of_waitFree {o : Host.Outcome State Fault Refusal} {u : State} {j : Nat} (hj : j = 0)
    (h : ∀ m, untilIdle (j + m) o = untilIdle m (.next u)) : o = .next u := by
  subst hj
  exact h 0

/-- Settles O58: neither macro waits, and what they read is what the target holds. -/
theorem readAndVerifyOnTarget : Obligations.ReadAndVerifyOnTarget := by
  intro s t offset opts hs hc hon hreset hchunk
  have hread := readChunk_pos hc
  have hflash : ∀ x, s.flashAt x = some (t.mem.read x) := fun x => by rw [State.flashAt, hon.2.2.1]; rfl
  refine ⟨fun len hi => ?_, fun data hi => ?_⟩
  · have ⟨_, hrange, _⟩ := hi
    have hfree : WaitFree (planRead s.cfg offset len.toNat opts) := waitFree_append.mpr ⟨waitFree_append.mpr
      ⟨waitFree_entry _, waitFree_readLoop _ _ _⟩, waitFree_refreshPhase _⟩
    obtain ⟨pos, hloop⟩ := view_readLoop hread ⟨t.mem, 0, [], none⟩ offset len
    obtain ⟨j, n, kind, d, u, hresult, ⟨hout, -⟩, hhz, -, hresults, hmem, hrun, hj⟩ := exec_onTarget (i := .mRead offset len opts) hs hc
      hon hreset hi rfl (operands_expansion hc hchunk hi rfl) (.inr hfree)
      ((view_flashMacro _ _ _ _ _).trans hloop)
    cases hresult
    refine ⟨u, n.out, exec_eq_of_waitFree (hj hfree) hrun, hhz, hresults, ?_, fun j hj => ?_, fun x => by rw [hmem, hflash]⟩
    · rw [hout]
      exact length_flashBytes _ _ _
    · rw [hout, hflash]
      exact getElem?_flashBytes hj (of_decide_eq_true hrange)
  · have ⟨_, hrange, _⟩ := hi
    have hfree : WaitFree (planVerify s.cfg offset data opts) := waitFree_append.mpr ⟨waitFree_append.mpr
      ⟨waitFree_entry _, waitFree_verifyLoop _ _ _⟩, waitFree_refreshPhase _⟩
    obtain ⟨pos, hloop⟩ := view_verifyLoop hread ⟨t.mem, 0, [], none⟩ hrange
    obtain ⟨j, n, kind, d, u, hresult, ⟨-, hfirst⟩, hhz, -, hresults, hmem, hrun, hj⟩ := exec_onTarget
      (i := .mVerify offset data opts) hs hc hon hreset hi rfl (operands_expansion hc hchunk hi rfl) (.inr hfree)
      ((view_flashMacro _ _ _ _ _).trans hloop)
    have hfirst : n.first = firstDiff offset.toNat (flashBytes t.mem offset.toNat data.length) data := hfirst
    obtain ⟨hsame, hdiff⟩ := firstDiff_flashBytes t.mem data offset.toNat (of_decide_eq_true hrange)
    refine ⟨u, _, exec_eq_of_waitFree (hj hfree) hrun, hhz, hresults, fun x => by rw [hmem, hflash], fun h => ?_,
      fun m hm hbefore hat => ?_⟩
    · have hnone := hfirst.trans (hsame fun j hj => hflash _ ▸ h j hj)
      rw [macroResult, hnone] at hresult
      cases hresult
      rfl
    · have hsome := hfirst.trans (hdiff m hm (fun i hi => hflash _ ▸ hbefore i hi) (hflash _ ▸ hat))
      rw [macroResult, hsome] at hresult
      cases hresult
      rfl

end Sys2Proof.Machine
end

section
/-! SUPPORT. What the erases and the programs of a macro make of the flash's bytes (45_orchestrator.md R287 to R290;
20_memory.md R79, R80, R84), and the statements on `M_ERASE` and `M_PROGRAM` on a reference target. -/

namespace Sys2Proof.Machine

/-! ## Erases -/

theorem dvd_of_isPow2 {b n : Nat} (h : IsPow2 b) (hle : b ≤ 2 ^ n) : b ∣ 2 ^ n := by
  obtain ⟨-, hlog⟩ := h
  rw [← hlog]
  exact Nat.pow_dvd_pow 2 ((Nat.pow_le_pow_iff_right (a := 2) (by decide)).mp (by rw [hlog]; exact hle))

theorem isPow2_eraseSize {c : Cfg} (hc : c.Wf) (g : Gran) : IsPow2 (c.eraseSize g) := by
  obtain ⟨⟨-, -, -, h4, h32, h64, -⟩, -⟩ := hc
  cases g
  · exact h4
  · exact h32
  · exact h64

/-- The block erases of a list of blocks (R288). -/
theorem view_eraseBlocks (c : Cfg) (g : Gran) (blocks : List Nat) : ∀ v : View,
    (∀ a ∈ blocks, a < 2 ^ 24 ∧ c.eraseSize g ∣ a) →
    ∃ m, (blocks.flatMap fun a => [runIt (eraseCmd g (BitVec.ofNat 24 a)), runIt .fWait]).foldl (View.after c) v =
        { v with mem := m } ∧ (v.mem.Wf → m.Wf) ∧
      ∀ x, ((∃ a ∈ blocks, c.eraseSize g ∣ a ∧ a ≤ x ∧ x < a + c.eraseSize g) → m.read x = 0xFF) ∧
        ((¬∃ a ∈ blocks, c.eraseSize g ∣ a ∧ a ≤ x ∧ x < a + c.eraseSize g) → m.read x = v.mem.read x) := by
  induction blocks with
  | nil => exact fun v _ => ⟨v.mem, rfl, id, fun x => ⟨by simp, fun _ => rfl⟩⟩
  | cons a blocks ih =>
    intro v hblocks
    obtain ⟨⟨ha, hdvd⟩, hblocks⟩ := List.forall_mem_cons.mp hblocks
    have haddr : (BitVec.ofNat 24 a).toNat = a := by rw [BitVec.toNat_ofNat, Nat.mod_eq_of_lt ha]
    have hdown : roundDown a (c.eraseSize g) = a := by rw [roundDown, Nat.mod_eq_zero_of_dvd hdvd, Nat.sub_zero]
    have hfirst : [runIt (eraseCmd g (BitVec.ofNat 24 a)), runIt .fWait].foldl (View.after c) v =
        { v with mem := v.mem.erase a (a + c.eraseSize g) } := by
      have hmem := memAfter_eraseCmd c v.mem g (BitVec.ofNat 24 a)
      rw [haddr, hdown] at hmem
      rw [← hmem]
      cases g <;> rfl
    obtain ⟨m, hfold, hwf, hread⟩ := ih { v with mem := v.mem.erase a (a + c.eraseSize g) } hblocks
    refine ⟨m, ?_, fun h => hwf (Memory.wf_erase h _ _), fun x => ?_⟩
    · rw [List.flatMap_cons, List.foldl_append, hfirst, hfold]
    · obtain ⟨hin, hout⟩ := hread x
      have hrest : (¬∃ b ∈ blocks, c.eraseSize g ∣ b ∧ b ≤ x ∧ x < b + c.eraseSize g) →
          m.read x = if a ≤ x ∧ x < a + c.eraseSize g then erasedByte else v.mem.read x := fun h =>
        (hout h).trans (Memory.read_erase _ _)
      refine ⟨fun ⟨b, hb, hcover⟩ => ?_, fun hnone => ?_⟩
      · by_cases hlater : ∃ b ∈ blocks, c.eraseSize g ∣ b ∧ b ≤ x ∧ x < b + c.eraseSize g
        · exact hin hlater
        · rcases List.mem_cons.mp hb with rfl | hb
          · rw [hrest hlater, if_pos hcover.2]
            rfl
          · exact absurd ⟨b, hb, hcover⟩ hlater
      · rw [hrest fun ⟨b, hb, hcover⟩ => hnone ⟨b, List.mem_cons_of_mem a hb, hcover⟩,
          if_neg fun h => hnone ⟨a, List.mem_cons_self, hdvd, h⟩]

/-- The erase of a range sets its region to 0xFF and nothing else (R287, R288). -/
theorem view_eraseRange {c : Cfg} (hc : c.Wf) {g : Gran} (hsize : c.eraseSize g ≤ 2 ^ 24) {offset : Addr} {len : Nat}
    (hrange : rangeOk offset len = true) (v : View) :
    ∃ m, (eraseRange c offset len g).foldl (View.after c) v = { v with mem := m } ∧ (v.mem.Wf → m.Wf) ∧
      ∀ x, (eraseBegin offset.toNat (c.eraseSize g) ≤ x ∧ x < eraseEnd offset.toNat len (c.eraseSize g) → m.read x = 0xFF) ∧
        (¬(eraseBegin offset.toNat (c.eraseSize g) ≤ x ∧ x < eraseEnd offset.toNat len (c.eraseSize g)) →
          m.read x = v.mem.read x) := by
  have hpow := isPow2_eraseSize hc g
  have hpos : 0 < c.eraseSize g := hpow.1
  have hend : eraseEnd offset.toNat len (c.eraseSize g) ≤ 2 ^ 24 :=
    eraseEnd_le hpos (dvd_of_isPow2 hpow hsize) (of_decide_eq_true hrange)
  have hblocks : ∀ a ∈ eraseBlocks offset.toNat len (c.eraseSize g), a < 2 ^ 24 ∧ c.eraseSize g ∣ a := by
    intro a ha
    have hdvd : c.eraseSize g ∣ a := by
      obtain ⟨i, -, rfl⟩ := (mem_eraseBlocks hpos).mp ha
      exact (dvd_eraseBegin _ _).add (Nat.dvd_mul_right _ _)
    have hcover := ((exists_block_iff hpos a).mp ⟨a, ha, hdvd, Nat.le_refl a, by omega⟩).2
    exact ⟨by omega, hdvd⟩
  obtain ⟨m, hfold, hwf, hread⟩ := view_eraseBlocks c g _ v hblocks
  exact ⟨m, hfold, hwf, fun x => by rw [← exists_block_iff hpos x]; exact hread x⟩

/-! ## Programs -/

/-- A page program that stays inside its 256 bytes ANDs its data into what is there and changes nothing else (R84). -/
theorem read_program {m : Memory} (hm : m.Wf) {a : Nat} (ha : a < 2 ^ 24) {data : List Byte} (hin : a % 256 + data.length ≤ 256) :
    (∀ x, x < a ∨ a + data.length ≤ x → (m.program (roundDown a 256) a data).read x = m.read x) ∧
      ∀ j d, data[j]? = some d → (m.program (roundDown a 256) a data).read (a + j) = m.read (a + j) &&& d := by
  have hat : ∀ j, roundDown a 256 + (a % 256 + j) = a + j := fun j => by
    simp only [roundDown]
    omega
  refine ⟨fun x hx => Memory.read_program_other _ _ _ fun i hi => ?_, fun j d hd => ?_⟩
  · have hmod : (a + i) % 256 = a % 256 + i := by omega
    rw [hmod, hat]
    omega
  · rw [← hat]
    exact Memory.read_program_at (page_inside ha) data m hm a j d hd hin

/-- The pieces of the program loop, one after another (R290). -/
theorem view_pieces {c : Cfg} (hpow : IsPow2 c.pageSize) (hsize : c.pageSize ≤ 256) (k : Nat) : ∀ (a : Nat) (data : List Byte)
    (v : View), data.length ≤ k → a + data.length ≤ 2 ^ 24 → v.mem.Wf →
    ∃ m, ((pieces c.pageSize k a data).flatMap fun p => [runIt (.fPp (BitVec.ofNat 24 p.1) p.2), runIt .fWait]).foldl
        (View.after c) v = { v with mem := m } ∧
      (∀ x, x < a ∨ a + data.length ≤ x → m.read x = v.mem.read x) ∧
      ∀ j d, data[j]? = some d → m.read (a + j) = v.mem.read (a + j) &&& d := by
  induction k with
  | zero =>
    intro a data v hk _ _
    rw [List.length_eq_zero_iff.mp (Nat.le_zero.mp hk)]
    exact ⟨v.mem, rfl, fun _ _ => rfl, nofun⟩
  | succ k ih =>
    intro a data v hk hin hm
    by_cases hnil : data = []
    · subst hnil
      exact ⟨v.mem, rfl, fun _ _ => rfl, nofun⟩
    have hpos := cutLength_pos hpow.1 a hnil
    have hcut : cutLength c.pageSize a data ≤ data.length := Nat.min_le_left _ _
    obtain ⟨cut, hcutdef⟩ : ∃ cut, cut = cutLength c.pageSize a data := ⟨_, rfl⟩
    have ha : a < 2 ^ 24 := by omega
    have haddr : (BitVec.ofNat 24 a).toNat = a := by rw [BitVec.toNat_ofNat, Nat.mod_eq_of_lt ha]
    have hinside : a % 256 + cut ≤ 256 := by
      have hlen : pageLenOk c (BitVec.ofNat 24 a) cut = true := by
        have hpage : cut ≤ c.pageSize - a % c.pageSize := hcutdef ▸ Nat.min_le_right _ _
        rw [pageLenOk, haddr, Bool.and_eq_true, decide_eq_true_eq, decide_eq_true_eq]
        exact ⟨hcutdef ▸ hpos, hpage⟩
      have := data_inside_256 hpow hsize hlen
      rwa [haddr] at this
    have htake : (data.take cut).length = cut := List.length_take_of_le (hcutdef ▸ hcut)
    obtain ⟨hother, hat⟩ := read_program hm ha (data := data.take cut) (by rw [htake]; exact hinside)
    obtain ⟨m, hfold, hother', hat'⟩ := ih (a + cut) (data.drop cut)
      { v with mem := v.mem.program (roundDown a 256) a (data.take cut) } (by rw [List.length_drop]; omega)
      (by rw [List.length_drop]; omega) (Memory.wf_program (page_inside ha) _ hm _)
    rw [htake] at hother
    rw [List.length_drop] at hother'
    refine ⟨m, ?_, fun x hx => ?_, fun j d hd => ?_⟩
    · have hfirst : [runIt (.fPp (BitVec.ofNat 24 a) (data.take cut)), runIt .fWait].foldl (View.after c) v =
          { v with mem := v.mem.program (roundDown a 256) a (data.take cut) } := by
        have hmem : memAfter c v.mem (.fPp (BitVec.ofNat 24 a) (data.take cut)) =
            v.mem.program (roundDown a 256) a (data.take cut) := by rw [memAfter, haddr]
        rw [← hmem]
        rfl
      rw [pieces_succ _ _ _ hnil, ← hcutdef, List.flatMap_cons, List.foldl_append, hfirst, hfold]
    · exact (hother' x (by omega)).trans (hother x (by omega))
    · by_cases hj : j < cut
      · rw [hother' (a + j) (.inl (by omega))]
        exact hat j d (by rw [List.getElem?_take_of_lt hj]; exact hd)
      · have hlater := hat' (j - cut) d (by rw [List.getElem?_drop, Nat.add_sub_cancel' (Nat.le_of_not_lt hj)]; exact hd)
        rw [Nat.add_assoc, Nat.add_sub_cancel' (Nat.le_of_not_lt hj)] at hlater
        rw [hlater, hother (a + j) (.inr (by omega))]

theorem view_programLoop {c : Cfg} (hc : c.Wf) (hsize : c.pageSize ≤ 256) {offset : Addr} {data : List Byte}
    (hrange : rangeOk offset data.length = true) (v : View) (hm : v.mem.Wf) :
    ∃ m, (programLoop c offset data).foldl (View.after c) v = { v with mem := m } ∧
      (∀ x, x < offset.toNat ∨ offset.toNat + data.length ≤ x → m.read x = v.mem.read x) ∧
      ∀ j d, data[j]? = some d → m.read (offset.toNat + j) = v.mem.read (offset.toNat + j) &&& d := by
  obtain ⟨⟨hpow, -⟩, -⟩ := hc
  exact view_pieces hpow hsize _ _ _ v (Nat.le_refl _) (of_decide_eq_true hrange) hm

/-! ## The macros -/

/-- The addresses that `M_PROGRAM` erases (R286). -/
def ErasedBy (opts : Byte) (lo hi x : Nat) : Prop := optBulk opts = true ∨ (optNoErase opts = false ∧ lo ≤ x ∧ x < hi)

/-- The erase part of `M_PROGRAM` (R286, R288, R289). -/
theorem view_programErase {c : Cfg} (hc : c.Wf) {g : Gran} (hsize : c.eraseSize g ≤ 2 ^ 24) {offset : Addr} {data : List Byte}
    (hrange : rangeOk offset data.length = true) (opts : Byte) (v : View) :
    ∃ m, (programErase c offset g data opts).foldl (View.after c) v = { v with mem := m } ∧ (v.mem.Wf → m.Wf) ∧
      ∀ x, (ErasedBy opts (eraseBegin offset.toNat (c.eraseSize g)) (eraseEnd offset.toNat data.length (c.eraseSize g)) x →
          m.read x = 0xFF) ∧
        (¬ErasedBy opts (eraseBegin offset.toNat (c.eraseSize g)) (eraseEnd offset.toNat data.length (c.eraseSize g)) x →
          m.read x = v.mem.read x) := by
  unfold programErase ErasedBy
  cases hbulk : optBulk opts with
  | true => exact ⟨[], rfl, fun _ => Memory.wf_nil, fun x => ⟨fun _ => rfl, fun h => absurd (.inl rfl) h⟩⟩
  | false =>
    cases hkeep : optNoErase opts with
    | true => exact ⟨v.mem, rfl, id, fun x => ⟨by simp, fun _ => rfl⟩⟩
    | false =>
      obtain ⟨m, hfold, hwf, hread⟩ := view_eraseRange hc hsize hrange v
      exact ⟨m, hfold, hwf, fun x => by simpa using hread x⟩

theorem view_unprotect (c : Cfg) (opts : Byte) (v : View) :
    (if optUnprotect opts then [runIt .fWren, .sub .fUnprotect .unprotect] else []).foldl (View.after c) v = v := by
  split <;> rfl

/-- Settles O59: the macro's loop erases the blocks of its region, one wait after another. -/
theorem eraseOnTarget : Obligations.EraseOnTarget := by
  intro s t offset len gran g opts hinv hs htask hon hbit hreset hgran hsize hi
  have hc := hinv.1
  have ⟨_, _, hrange, _⟩ := hi
  have hitems : (Instr.mErase offset len gran opts).expansion s.cfg =
      some (.erase, planErase s.cfg offset len.toNat g opts) := by simp only [Instr.expansion, hgran, Option.getD_some]
  obtain ⟨m, hloop, -, hread⟩ := view_eraseRange hc hsize hrange ⟨t.mem, 0, [], none⟩
  obtain ⟨j, n, kind, d, u, hresult, -, hhz, htask', hresults, hmem, hrun, -⟩ := exec_onTarget hs hc hon hreset hi hitems
    (operands_of_loops (i := .mErase offset len gran opts) trivial hitems) (.inl ⟨hbit, htask⟩)
    ((view_flashMacro _ _ _ _ _).trans hloop)
  cases hresult
  refine ⟨j, u, hrun 0, htask'.trans htask, hhz, hresults, fun x => ?_⟩
  obtain ⟨hin, hout⟩ := hread x
  rw [hmem]
  split
  next h => exact congrArg some (hin h)
  next h =>
    rw [State.flashAt, hon.2.2.1]
    exact congrArg some (hout h)

/-- The view at the end of `M_PROGRAM` (R286): the erase, the program, and the comparison with the image. -/
structure Programmed (c : Cfg) (offset : Addr) (g : Gran) (data : List Byte) (opts : Byte) (m : Memory) (v : View) : Prop where
  /-- Outside the image. -/
  outside : ∀ x, x < offset.toNat ∨ offset.toNat + data.length ≤ x →
    (ErasedBy opts (eraseBegin offset.toNat (c.eraseSize g)) (eraseEnd offset.toNat data.length (c.eraseSize g)) x →
      v.mem.read x = 0xFF) ∧
    (¬ErasedBy opts (eraseBegin offset.toNat (c.eraseSize g)) (eraseEnd offset.toNat data.length (c.eraseSize g)) x →
      v.mem.read x = m.read x)
  /-- Inside it. -/
  inside : ∀ j d, data[j]? = some d →
    (ErasedBy opts (eraseBegin offset.toNat (c.eraseSize g)) (eraseEnd offset.toNat data.length (c.eraseSize g))
      (offset.toNat + j) → v.mem.read (offset.toNat + j) = d) ∧
    (¬ErasedBy opts (eraseBegin offset.toNat (c.eraseSize g)) (eraseEnd offset.toNat data.length (c.eraseSize g))
      (offset.toNat + j) → v.mem.read (offset.toNat + j) = m.read (offset.toNat + j) &&& d)
  first : v.first = if optNoVerify opts then none
    else firstDiff offset.toNat (flashBytes v.mem offset.toNat data.length) data

theorem programmed_planProgram {c : Cfg} (hc : c.Wf) {g : Gran} (hsize : c.eraseSize g ≤ 2 ^ 24) (hpage : c.pageSize ≤ 256)
    {offset : Addr} {data : List Byte} (hrange : rangeOk offset data.length = true) (opts : Byte) {m : Memory} (hm : m.Wf) :
    Programmed c offset g data opts m ((planProgram c offset g data opts).foldl (View.after c) ⟨m, 0, [], none⟩) := by
  obtain ⟨m₁, herase, hwf, hread⟩ := view_programErase hc hsize hrange opts ⟨m, 0, [], none⟩
  obtain ⟨m₂, hprogram, hother, hat⟩ := view_programLoop hc hpage hrange ⟨m₁, 0, [], none⟩ (hwf hm)
  have hverify : ∃ pos, (if optNoVerify opts then [] else verifyLoop c offset data).foldl (View.after c) ⟨m₂, 0, [], none⟩ =
      ⟨m₂, pos, [], if optNoVerify opts then none else firstDiff offset.toNat (flashBytes m₂ offset.toNat data.length) data⟩ := by
    split
    · exact ⟨0, rfl⟩
    · exact view_verifyLoop (readChunk_pos hc) ⟨m₂, 0, [], none⟩ hrange
  obtain ⟨pos, hverify⟩ := hverify
  rw [planProgram, List.foldl_append, List.foldl_append, List.foldl_append, List.foldl_append, List.foldl_append, view_entry,
    view_unprotect, herase, hprogram, hverify, view_refreshPhase]
  refine ⟨fun x hx => ?_, fun j d hd => ?_, rfl⟩
  · obtain ⟨hin, hout⟩ := hread x
    exact ⟨fun h => (hother x hx).trans (hin h), fun h => (hother x hx).trans (hout h)⟩
  · obtain ⟨hin, hout⟩ := hread (offset.toNat + j)
    refine ⟨fun h => ?_, fun h => ?_⟩
    · rw [hat j d hd]
      exact (congrArg (· &&& d) (hin h)).trans BitVec.allOnes_and
    · rw [hat j d hd]
      exact congrArg (· &&& d) (hout h)

/-- What is erased holds the image once it is programmed, so that the comparison finds nothing (R291). -/
theorem Programmed.first_none {c : Cfg} (hc : c.Wf) {g : Gran} {offset : Addr} {data : List Byte} {opts : Byte} {m : Memory}
    {v : View} (h : Programmed c offset g data opts m v) (hrange : rangeOk offset data.length = true)
    (herase : optNoErase opts = false ∨ optNoVerify opts = true) : v.first = none := by
  rw [h.first]
  split
  · rfl
  next hverify =>
    refine (firstDiff_flashBytes v.mem data offset.toNat (of_decide_eq_true hrange)).1 fun j hj => ?_
    have hpos : 0 < c.eraseSize g := (isPow2_eraseSize hc g).1
    have hbegin := (eraseBegin_bounds hpos offset.toNat).1
    have hend := (eraseEnd_bounds hpos offset.toNat data.length).1
    have hdata := List.getElem?_eq_getElem hj
    rw [hdata]
    exact congrArg some ((h.inside j _ hdata).1 (.inr ⟨herase.resolve_right hverify, by omega, by omega⟩))

/-- Settles O60: the macro erases, programs piece after piece, and compares what the target then holds. -/
theorem programOnTarget : Obligations.ProgramOnTarget := by
  intro s t offset gran g data opts hinv hs htask hon hbit hreset hgran hsize hpage hchunk hi erased
  have hc := hinv.1
  have ⟨_, _, hrange, _⟩ := hi
  have hitems : (Instr.mProgram offset gran data opts).expansion s.cfg =
      some (.program, planProgram s.cfg offset g data opts) := by simp only [Instr.expansion, hgran, Option.getD_some]
  obtain ⟨-, -, -, -, -, -, hmemInv⟩ := hinv
  have hprogrammed := programmed_planProgram hc hsize hpage hrange opts (hmemInv t hon.2.2.1)
  obtain ⟨v, hv⟩ : ∃ v, (planProgram s.cfg offset g data opts).foldl (View.after s.cfg) ⟨t.mem, 0, [], none⟩ = v := ⟨_, rfl⟩
  rw [hv] at hprogrammed
  obtain ⟨j, n, kind, d, u, hresult, ⟨-, hfirst⟩, hhz, htask', hresults, hmem, hrun, -⟩ := exec_onTarget hs hc hon hreset hi hitems
    (operands_expansion hc hchunk hi hitems) (.inl ⟨hbit, htask⟩) hv
  have hflash : ∀ x, s.flashAt x = some (t.mem.read x) := fun x => by rw [State.flashAt, hon.2.2.1]; rfl
  obtain ⟨hsame, hdiff⟩ := firstDiff_flashBytes v.mem data offset.toNat (of_decide_eq_true hrange)
  have hcompared : optNoVerify opts = false → n.first = firstDiff offset.toNat (flashBytes v.mem offset.toNat data.length) data :=
    fun h => hfirst.trans (hprogrammed.first.trans (if_neg (by simp [h])))
  cases hresult
  refine ⟨j, u, u.dev, n.jedec, n.unprotect, n.first, hrun 0, htask'.trans htask, hhz, ?_, fun x hx => ?_, fun j d hd => ?_,
    fun h => hfirst.trans (hprogrammed.first_none hc hrange h), fun hverify h => ?_, fun j hj hverify hbefore hat => ?_⟩
  · rw [hresults]
    cases n.first <;> rfl
  · obtain ⟨hin, hout⟩ := hprogrammed.outside x hx
    rw [hmem, hflash]
    exact ⟨fun h => congrArg some (hin h), fun h => congrArg some (hout h)⟩
  · obtain ⟨hin, hout⟩ := hprogrammed.inside j d hd
    rw [hmem, hflash]
    exact ⟨fun h => congrArg some (hin h), fun h => congrArg some (hout h)⟩
  · exact (hcompared hverify).trans (hsame fun j hj => hmem _ ▸ h j hj)
  · exact (hcompared hverify).trans (hdiff j hj (fun i hi => hmem _ ▸ hbefore i hi) (hmem _ ▸ hat))

end Sys2Proof.Machine
end
